-- ==== Sys2Proof/Word.lean ====
section
/-! DEFINITION. The value types of the spec: bytes, byte strings, texts and 32-bit words
(spec/00_scope.md rule R9). -/

namespace Sys2Proof

/-- An unsigned 8-bit value (R9). -/
abbrev Byte := BitVec 8

/-- A finite sequence of bytes (R9): `[]`, `++`, `List.length`, `List.drop` are the spec's operations. -/
abbrev Bytes := List Byte

/-- A 32-bit unsigned value: a CRC (R110). -/
abbrev Word32 := BitVec 32

/-- A text: a sequence of characters, escapes already resolved (R221). -/
abbrev Text := List Char

end Sys2Proof
end

