-- ==== Sys2Proof/Config.lean ====
section
/-! DEFINITION. What an implementation fixes (the parameters of spec/00_scope.md rule R7), the JSON
values of spec/45_classifier_and_facade.md rule R221, the configuration function `JsonParse` and the
free values the spec leaves open (U25), each an opaque constant with no body. -/

namespace Sys2Proof

mutual

/-- A JSON value (R221). -/
inductive JsonValue where
  | null
  | bool (t : Bool)
  /-- `num(q)`: `q` is the exact rational value of the numeral. -/
  | num (q : Rat)
  | str (s : Text)
  | arr (l : JsonList)
  | obj (m : JsonMembers)
deriving DecidableEq, Repr, Inhabited

/-- The elements of a JSON array (R221). -/
inductive JsonList where
  | nil
  | cons (v : JsonValue) (rest : JsonList)
deriving DecidableEq, Repr, Inhabited

/-- The finite map of a JSON object, written as its members in some order; the first member with a
key is the one the map gives (R221). -/
inductive JsonMembers where
  | nil
  | cons (k : Text) (v : JsonValue) (rest : JsonMembers)
deriving DecidableEq, Repr, Inhabited

end

/-- The OPEN parameters of R7 that a rule reads. `none` stands for the spec's `inf`. They do not change
while the block is out of reset (R71 (c)); `State` carries them so that every claim holds for every
configuration (log entry 2). `NPORTS` is the number of port records of the state. -/
structure Params where
  /-- `HDR_CAP`, capacity of `hdr_buf`. -/
  hdrCap : Option Nat
  /-- `BODY_CAP`, capacity of `body_buf`. -/
  bodyCap : Option Nat
  /-- `CRC_CAP`, capacity of `crc_buf`; a finite value below 8 is refused (R7, U4). -/
  crcCap : Option Nat
  /-- `TX_CAP`, the largest request body the sequencer accepts. -/
  txCap : Option Nat
  /-- `TW`, the width in bits of a timeout and of `dec_timer`. -/
  tw : Nat
  /-- `TICK_HZ`, ticks per second; only the caller's conversion of R237 reads it. -/
  tickHz : Rat
deriving DecidableEq, Repr

namespace Config

/-- `JsonParse`, the OPEN configuration function of R220: total, deterministic, a function of the
bytes alone, and nothing else is known of it (D15, U16). -/
opaque jsonParse : Bytes → Option JsonValue

/-- Free value: the field `value` of the `n`-th result posted, where its outcome is not `Success`
(R33, U25: any value). -/
opaque freeJson : Nat → JsonValue

/-- Free value: the field `app_code` of the `n`-th result posted, where its outcome is not
`ApplicationError` (R33, U25). -/
opaque freeAppCode : Nat → Int

/-- Free value: the field `app_msg` of the `n`-th result posted, where its outcome is not
`ApplicationError` (R33, U25). -/
opaque freeAppMsg : Nat → Text

end Config

end Sys2Proof
end

