-- ==== Sys2Proof/Syntax.lean ====
section
/-! DEFINITION. The instruction set as spec/00_scope.md rule R3 and spec/30_encoding.md rule R103 give it:
one constructor per row of spec/opcode_table.json. -/

namespace Sys2Proof

/-- The four values of the parser's state register `pstate` (R21). -/
inductive PState where
  | idle
  | inHeader
  | inBody
  | inCrc
deriving DecidableEq, Repr

/-- The four host operations (R97). -/
inductive HostOp where
  | cmd
  | cmdNr
  | excl
  | release
deriving DecidableEq, Repr

/-- The instructions. A decoder step (`format` = `rx_byte`) is one received byte against one parser
state; where its row covers a block of byte values the constructor carries the bits `x` that the row's
mask leaves free, so the byte is the row's `match` with `x` in its low bits. A host operation carries the
operands of the request record (R32). `headerCmd` is the header value the block sends (R192);
`headerResp` and `headerErr` are the header values it tests a received frame for (R201, R202), with the
frame's body. `encode`, `crc32` and `decode` have no instruction word (R103 (d)). -/
inductive Instr where
  /- `IDLE.SKIP`, R159 -/
  | idleSkip_00_00
  | idleSkip_02_03 (x : BitVec 1)
  | idleSkip_04_07 (x : BitVec 2)
  | idleSkip_08_0F (x : BitVec 3)
  | idleSkip_10_1F (x : BitVec 4)
  | idleSkip_20_3F (x : BitVec 5)
  | idleSkip_40_7F (x : BitVec 6)
  | idleSkip_80_FF (x : BitVec 7)
  /- `IDLE.SOH`, R140 -/
  | idleSoh
  /- `HDR.OTHER`, R146 -/
  | hdrOther_00_00
  | hdrOther_05_05
  | hdrOther_06_07 (x : BitVec 1)
  | hdrOther_08_0F (x : BitVec 3)
  | hdrOther_10_1F (x : BitVec 4)
  | hdrOther_FF_FF
  /- `HDR.SOH`, R141 -/
  | hdrSoh
  /- `HDR.STX`, R142 -/
  | hdrStx
  /- `HDR.ETX`, R143 -/
  | hdrEtx
  /- `HDR.EOT`, R145 -/
  | hdrEot
  /- `HDR.PRINT`, R144 -/
  | hdrPrint_20_3F (x : BitVec 5)
  | hdrPrint_40_7F (x : BitVec 6)
  | hdrPrint_80_BF (x : BitVec 6)
  | hdrPrint_C0_DF (x : BitVec 5)
  | hdrPrint_E0_EF (x : BitVec 4)
  | hdrPrint_F0_F7 (x : BitVec 3)
  | hdrPrint_F8_FB (x : BitVec 2)
  | hdrPrint_FC_FD (x : BitVec 1)
  | hdrPrint_FE_FE
  /- `BODY.OTHER`, R152 -/
  | bodyOther_00_00
  | bodyOther_05_05
  | bodyOther_06_07 (x : BitVec 1)
  | bodyOther_08_0F (x : BitVec 3)
  | bodyOther_10_1F (x : BitVec 4)
  | bodyOther_FF_FF
  /- `BODY.SOH`, R147 -/
  | bodySoh
  /- `BODY.STX`, R148 -/
  | bodyStx
  /- `BODY.ETX`, R149 -/
  | bodyEtx
  /- `BODY.EOT`, R150 -/
  | bodyEot
  /- `BODY.PRINT`, R151 -/
  | bodyPrint_20_3F (x : BitVec 5)
  | bodyPrint_40_7F (x : BitVec 6)
  | bodyPrint_80_BF (x : BitVec 6)
  | bodyPrint_C0_DF (x : BitVec 5)
  | bodyPrint_E0_EF (x : BitVec 4)
  | bodyPrint_F0_F7 (x : BitVec 3)
  | bodyPrint_F8_FB (x : BitVec 2)
  | bodyPrint_FC_FD (x : BitVec 1)
  | bodyPrint_FE_FE
  /- `CRC.NONHEX`, R158 -/
  | crcNonhex_00_00
  | crcNonhex_05_05
  | crcNonhex_06_07 (x : BitVec 1)
  | crcNonhex_08_0F (x : BitVec 3)
  | crcNonhex_10_1F (x : BitVec 4)
  | crcNonhex_20_2F (x : BitVec 4)
  | crcNonhex_3A_3B (x : BitVec 1)
  | crcNonhex_3C_3F (x : BitVec 2)
  | crcNonhex_40_40
  | crcNonhex_47_47
  | crcNonhex_48_4F (x : BitVec 3)
  | crcNonhex_50_5F (x : BitVec 4)
  | crcNonhex_60_60
  | crcNonhex_67_67
  | crcNonhex_68_6F (x : BitVec 3)
  | crcNonhex_70_7F (x : BitVec 4)
  | crcNonhex_80_FF (x : BitVec 7)
  /- `CRC.SOH`, R153 -/
  | crcSoh
  /- `CRC.STX`, R154 -/
  | crcStx
  /- `CRC.ETX`, R155 -/
  | crcEtx
  /- `CRC.EOT`, R156 -/
  | crcEot
  /- `CRC.HEX`, R157 -/
  | crcHex_30_37 (x : BitVec 3)
  | crcHex_38_39 (x : BitVec 1)
  | crcHex_41_41
  | crcHex_42_43 (x : BitVec 1)
  | crcHex_44_45 (x : BitVec 1)
  | crcHex_46_46
  | crcHex_61_61
  | crcHex_62_63 (x : BitVec 1)
  | crcHex_64_65 (x : BitVec 1)
  | crcHex_66_66
  /- host operations -/
  /-- `CMD`, R187: one transaction for port `p`. -/
  | cmd (p : Nat) (body : Bytes) (timeout : Nat)
  /-- `CMD_NR`, R187 and R204. -/
  | cmdNr (p : Nat) (body : Bytes) (timeout : Nat)
  /-- `EXCL`, R209: take the lock and hold it. -/
  | excl (p : Nat)
  /-- `RELEASE`, R211 and R212: give up a hold. -/
  | release (p : Nat)
  /- header values -/
  /-- `HEADER.CMD`, R192: the header of the request frame. -/
  | headerCmd
  /-- `HEADER.RESP`, R201: a received frame whose header is `"RESP"`. -/
  | headerResp (body : Bytes)
  /-- `HEADER.ERR`, R202: a received frame whose header is `"ERR"`. -/
  | headerErr (body : Bytes)
  /- internal operations -/
  /-- `ENCODE`, R125. -/
  | encode (header body : Bytes)
  /-- `CRC32`, R110. -/
  | crc32 (body : Bytes)
  /-- `DECODE`, R170: its start, R171. -/
  | decode (timeout : Nat)
deriving DecidableEq, Repr

end Sys2Proof
end

