-- ==== Sys2Proof/WellFormed.lean ====
section
/-! DEFINITION. Which configurations and which instructions are well formed: the checks on operands
that the type of an instruction does not already make (a received byte is well formed by its type, for
its constructor carries exactly the bits its table row leaves free). -/

namespace Sys2Proof

/-- The configurations of R7: `CRC_CAP` is not a finite value below 8 (U4 refuses it), `TW` is at least
1 and `TICK_HZ` is positive. -/
def Params.ok (c : Params) : Bool :=
  (match c.crcCap with
    | none => true
    | some n => decide (8 ≤ n)) && decide (1 ≤ c.tw) && decide (0 < c.tickHz.num)

/-- A timeout is an unsigned value of `TW` bits (R7, R32). -/
def Params.timeoutFits (c : Params) (t : Nat) : Bool := decide (t < 2 ^ c.tw)

/-- An instruction is well formed for a configuration `c` and `nports` ports: its port is in
`0 .. NPORTS-1` (R185) and its timeout fits in `TW` bits (R32, R170). Every byte operand is permitted:
the encoder validates nothing (R126), and the length of a body is judged when the request is taken
(R189). -/
def Instr.wellFormed (c : Params) (nports : Nat) : Instr → Bool
  | .cmd p _ t => decide (p < nports) && c.timeoutFits t
  | .cmdNr p _ t => decide (p < nports) && c.timeoutFits t
  | .excl p => decide (p < nports)
  | .release p => decide (p < nports)
  | .decode t => c.timeoutFits t
  | .idleSkip_00_00 | .idleSkip_02_03 _ | .idleSkip_04_07 _ | .idleSkip_08_0F _ | .idleSkip_10_1F _
  | .idleSkip_20_3F _ | .idleSkip_40_7F _ | .idleSkip_80_FF _ | .idleSoh | .hdrOther_00_00
  | .hdrOther_05_05 | .hdrOther_06_07 _ | .hdrOther_08_0F _ | .hdrOther_10_1F _ | .hdrOther_FF_FF
  | .hdrSoh | .hdrStx | .hdrEtx | .hdrEot | .hdrPrint_20_3F _ | .hdrPrint_40_7F _
  | .hdrPrint_80_BF _ | .hdrPrint_C0_DF _ | .hdrPrint_E0_EF _ | .hdrPrint_F0_F7 _
  | .hdrPrint_F8_FB _ | .hdrPrint_FC_FD _ | .hdrPrint_FE_FE | .bodyOther_00_00 | .bodyOther_05_05
  | .bodyOther_06_07 _ | .bodyOther_08_0F _ | .bodyOther_10_1F _ | .bodyOther_FF_FF | .bodySoh
  | .bodyStx | .bodyEtx | .bodyEot | .bodyPrint_20_3F _ | .bodyPrint_40_7F _ | .bodyPrint_80_BF _
  | .bodyPrint_C0_DF _ | .bodyPrint_E0_EF _ | .bodyPrint_F0_F7 _ | .bodyPrint_F8_FB _
  | .bodyPrint_FC_FD _ | .bodyPrint_FE_FE | .crcNonhex_00_00 | .crcNonhex_05_05
  | .crcNonhex_06_07 _ | .crcNonhex_08_0F _ | .crcNonhex_10_1F _ | .crcNonhex_20_2F _
  | .crcNonhex_3A_3B _ | .crcNonhex_3C_3F _ | .crcNonhex_40_40 | .crcNonhex_47_47
  | .crcNonhex_48_4F _ | .crcNonhex_50_5F _ | .crcNonhex_60_60 | .crcNonhex_67_67
  | .crcNonhex_68_6F _ | .crcNonhex_70_7F _ | .crcNonhex_80_FF _ | .crcSoh | .crcStx | .crcEtx
  | .crcEot | .crcHex_30_37 _ | .crcHex_38_39 _ | .crcHex_41_41 | .crcHex_42_43 _ | .crcHex_44_45 _
  | .crcHex_46_46 | .crcHex_61_61 | .crcHex_62_63 _ | .crcHex_64_65 _ | .crcHex_66_66 | .headerCmd
  | .headerResp _ | .headerErr _ | .encode _ _ | .crc32 _ => true

end Sys2Proof
end

