-- ==== Sys2Proof/Decode.lean ====
section
/-! DEFINITION. The decoder, total on every word the block can fetch and rejecting by name, and the
encoder after it, both from spec/opcode_table.json and spec/30_encoding.md rules R84 to R103. -/

namespace Sys2Proof

/-- What the block fetches an instruction from. -/
inductive Fetched where
  /-- A received byte, read against the parser state (R96: `pstate` is the only decoding mode). -/
  | rx (st : PState) (b : Byte)
  /-- The request record of port `p` (R32); the instruction word is its 2-bit `op` field (R97). -/
  | req (p : Nat) (op : BitVec 2) (body : Bytes) (timeout : Nat)
  /-- The header of a frame the block is about to send (R192). -/
  | sentHeader (h : Bytes)
  /-- The header of a frame the block has received, with the frame's body (R201). -/
  | rxHeader (h body : Bytes)
deriving DecidableEq, Repr

/-- Why a word is no instruction. -/
inductive Reject where
  /-- A received header that is neither `"RESP"` nor `"ERR"`: not illegal, the sequencer classifies it
  `ProtocolError` (R93, R203). -/
  | unexpectedHeader
  /-- A header the block never sends: it sends only `"CMD"` (R192). -/
  | headerNeverSent
deriving DecidableEq, Repr

/-- The decoder's answer. -/
inductive Decoded where
  | instr (i : Instr)
  | rejected (r : Reject)
deriving DecidableEq, Repr

/-- `"CMD"` as bytes (R90). -/
def hdrCMD : Bytes := [0x43, 0x4D, 0x44]

/-- `"RESP"` as bytes (R90). -/
def hdrRESP : Bytes := [0x52, 0x45, 0x53, 0x50]

/-- `"ERR"` as bytes (R90). -/
def hdrERR : Bytes := [0x45, 0x52, 0x52]

/-- The byte of a row: its `match` with the free bits below (R103 (a)). -/
def rowByte (base : Byte) (x : BitVec k) : Byte := base ||| x.setWidth 8

/-- The rows of state `idle` in the table's order; they partition the 256 byte values (R103 (a)), so the
last row needs no test of its own. -/
def decodeRxIdle (b : Byte) : Instr :=
  if b &&& 0xFF = 0x00 then .idleSkip_00_00
  else if b &&& 0xFE = 0x02 then .idleSkip_02_03 (b.setWidth 1)
  else if b &&& 0xFC = 0x04 then .idleSkip_04_07 (b.setWidth 2)
  else if b &&& 0xF8 = 0x08 then .idleSkip_08_0F (b.setWidth 3)
  else if b &&& 0xF0 = 0x10 then .idleSkip_10_1F (b.setWidth 4)
  else if b &&& 0xE0 = 0x20 then .idleSkip_20_3F (b.setWidth 5)
  else if b &&& 0xC0 = 0x40 then .idleSkip_40_7F (b.setWidth 6)
  else if b &&& 0x80 = 0x80 then .idleSkip_80_FF (b.setWidth 7)
  else .idleSoh

/-- The rows of state `inHeader` in the table's order; they partition the 256 byte values (R103 (a)), so the
last row needs no test of its own. -/
def decodeRxHeader (b : Byte) : Instr :=
  if b &&& 0xFF = 0x00 then .hdrOther_00_00
  else if b &&& 0xFF = 0x05 then .hdrOther_05_05
  else if b &&& 0xFE = 0x06 then .hdrOther_06_07 (b.setWidth 1)
  else if b &&& 0xF8 = 0x08 then .hdrOther_08_0F (b.setWidth 3)
  else if b &&& 0xF0 = 0x10 then .hdrOther_10_1F (b.setWidth 4)
  else if b &&& 0xFF = 0xFF then .hdrOther_FF_FF
  else if b &&& 0xFF = 0x01 then .hdrSoh
  else if b &&& 0xFF = 0x02 then .hdrStx
  else if b &&& 0xFF = 0x03 then .hdrEtx
  else if b &&& 0xFF = 0x04 then .hdrEot
  else if b &&& 0xE0 = 0x20 then .hdrPrint_20_3F (b.setWidth 5)
  else if b &&& 0xC0 = 0x40 then .hdrPrint_40_7F (b.setWidth 6)
  else if b &&& 0xC0 = 0x80 then .hdrPrint_80_BF (b.setWidth 6)
  else if b &&& 0xE0 = 0xC0 then .hdrPrint_C0_DF (b.setWidth 5)
  else if b &&& 0xF0 = 0xE0 then .hdrPrint_E0_EF (b.setWidth 4)
  else if b &&& 0xF8 = 0xF0 then .hdrPrint_F0_F7 (b.setWidth 3)
  else if b &&& 0xFC = 0xF8 then .hdrPrint_F8_FB (b.setWidth 2)
  else if b &&& 0xFE = 0xFC then .hdrPrint_FC_FD (b.setWidth 1)
  else .hdrPrint_FE_FE

/-- The rows of state `inBody` in the table's order; they partition the 256 byte values (R103 (a)), so the
last row needs no test of its own. -/
def decodeRxBody (b : Byte) : Instr :=
  if b &&& 0xFF = 0x00 then .bodyOther_00_00
  else if b &&& 0xFF = 0x05 then .bodyOther_05_05
  else if b &&& 0xFE = 0x06 then .bodyOther_06_07 (b.setWidth 1)
  else if b &&& 0xF8 = 0x08 then .bodyOther_08_0F (b.setWidth 3)
  else if b &&& 0xF0 = 0x10 then .bodyOther_10_1F (b.setWidth 4)
  else if b &&& 0xFF = 0xFF then .bodyOther_FF_FF
  else if b &&& 0xFF = 0x01 then .bodySoh
  else if b &&& 0xFF = 0x02 then .bodyStx
  else if b &&& 0xFF = 0x03 then .bodyEtx
  else if b &&& 0xFF = 0x04 then .bodyEot
  else if b &&& 0xE0 = 0x20 then .bodyPrint_20_3F (b.setWidth 5)
  else if b &&& 0xC0 = 0x40 then .bodyPrint_40_7F (b.setWidth 6)
  else if b &&& 0xC0 = 0x80 then .bodyPrint_80_BF (b.setWidth 6)
  else if b &&& 0xE0 = 0xC0 then .bodyPrint_C0_DF (b.setWidth 5)
  else if b &&& 0xF0 = 0xE0 then .bodyPrint_E0_EF (b.setWidth 4)
  else if b &&& 0xF8 = 0xF0 then .bodyPrint_F0_F7 (b.setWidth 3)
  else if b &&& 0xFC = 0xF8 then .bodyPrint_F8_FB (b.setWidth 2)
  else if b &&& 0xFE = 0xFC then .bodyPrint_FC_FD (b.setWidth 1)
  else .bodyPrint_FE_FE

/-- The rows of state `inCrc` in the table's order; they partition the 256 byte values (R103 (a)), so the
last row needs no test of its own. -/
def decodeRxCrc (b : Byte) : Instr :=
  if b &&& 0xFF = 0x00 then .crcNonhex_00_00
  else if b &&& 0xFF = 0x05 then .crcNonhex_05_05
  else if b &&& 0xFE = 0x06 then .crcNonhex_06_07 (b.setWidth 1)
  else if b &&& 0xF8 = 0x08 then .crcNonhex_08_0F (b.setWidth 3)
  else if b &&& 0xF0 = 0x10 then .crcNonhex_10_1F (b.setWidth 4)
  else if b &&& 0xF0 = 0x20 then .crcNonhex_20_2F (b.setWidth 4)
  else if b &&& 0xFE = 0x3A then .crcNonhex_3A_3B (b.setWidth 1)
  else if b &&& 0xFC = 0x3C then .crcNonhex_3C_3F (b.setWidth 2)
  else if b &&& 0xFF = 0x40 then .crcNonhex_40_40
  else if b &&& 0xFF = 0x47 then .crcNonhex_47_47
  else if b &&& 0xF8 = 0x48 then .crcNonhex_48_4F (b.setWidth 3)
  else if b &&& 0xF0 = 0x50 then .crcNonhex_50_5F (b.setWidth 4)
  else if b &&& 0xFF = 0x60 then .crcNonhex_60_60
  else if b &&& 0xFF = 0x67 then .crcNonhex_67_67
  else if b &&& 0xF8 = 0x68 then .crcNonhex_68_6F (b.setWidth 3)
  else if b &&& 0xF0 = 0x70 then .crcNonhex_70_7F (b.setWidth 4)
  else if b &&& 0x80 = 0x80 then .crcNonhex_80_FF (b.setWidth 7)
  else if b &&& 0xFF = 0x01 then .crcSoh
  else if b &&& 0xFF = 0x02 then .crcStx
  else if b &&& 0xFF = 0x03 then .crcEtx
  else if b &&& 0xFF = 0x04 then .crcEot
  else if b &&& 0xF8 = 0x30 then .crcHex_30_37 (b.setWidth 3)
  else if b &&& 0xFE = 0x38 then .crcHex_38_39 (b.setWidth 1)
  else if b &&& 0xFF = 0x41 then .crcHex_41_41
  else if b &&& 0xFE = 0x42 then .crcHex_42_43 (b.setWidth 1)
  else if b &&& 0xFE = 0x44 then .crcHex_44_45 (b.setWidth 1)
  else if b &&& 0xFF = 0x46 then .crcHex_46_46
  else if b &&& 0xFF = 0x61 then .crcHex_61_61
  else if b &&& 0xFE = 0x62 then .crcHex_62_63 (b.setWidth 1)
  else if b &&& 0xFE = 0x64 then .crcHex_64_65 (b.setWidth 1)
  else .crcHex_66_66

/-- One received byte against the parser state: total, with no reserved encoding (R92, R137). -/
def decodeRx : PState → Byte → Instr
  | .idle, b => decodeRxIdle b
  | .inHeader, b => decodeRxHeader b
  | .inBody, b => decodeRxBody b
  | .inCrc, b => decodeRxCrc b

/-- The operation a 2-bit code names; none is reserved (R97). -/
def HostOp.ofCode (op : BitVec 2) : HostOp :=
  if op = 0 then .cmd else if op = 1 then .cmdNr else if op = 2 then .excl else .release

/-- The code of a host operation (R97). -/
def HostOp.code : HostOp → BitVec 2
  | .cmd => 0
  | .cmdNr => 1
  | .excl => 2
  | .release => 3

/-- One request record: `body` and `timeout` are ignored for `EXCL` and `RELEASE` (R185). -/
def decodeReq (p : Nat) (op : BitVec 2) (body : Bytes) (timeout : Nat) : Instr :=
  match HostOp.ofCode op with
  | .cmd => .cmd p body timeout
  | .cmdNr => .cmdNr p body timeout
  | .excl => .excl p
  | .release => .release p

/-- The header of a received frame, compared whole, byte for byte, case-sensitively (R90, R201). -/
def decodeRxFrame (h body : Bytes) : Decoded :=
  if h = hdrRESP then .instr (.headerResp body)
  else if h = hdrERR then .instr (.headerErr body)
  else .rejected .unexpectedHeader

/-- The decoder. -/
def decode : Fetched → Decoded
  | .rx st b => .instr (decodeRx st b)
  | .req p op body timeout => .instr (decodeReq p op body timeout)
  | .sentHeader h => if h = hdrCMD then .instr .headerCmd else .rejected .headerNeverSent
  | .rxHeader h body => decodeRxFrame h body

/-- The state and the byte of a decoder step, written from its table row; `none` for an instruction
that is not a received byte. -/
def Instr.rxWord : Instr → Option (PState × Byte)
  | .idleSkip_00_00 => some (.idle, 0x00)
  | .idleSkip_02_03 x => some (.idle, rowByte 0x02 x)
  | .idleSkip_04_07 x => some (.idle, rowByte 0x04 x)
  | .idleSkip_08_0F x => some (.idle, rowByte 0x08 x)
  | .idleSkip_10_1F x => some (.idle, rowByte 0x10 x)
  | .idleSkip_20_3F x => some (.idle, rowByte 0x20 x)
  | .idleSkip_40_7F x => some (.idle, rowByte 0x40 x)
  | .idleSkip_80_FF x => some (.idle, rowByte 0x80 x)
  | .idleSoh => some (.idle, 0x01)
  | .hdrOther_00_00 => some (.inHeader, 0x00)
  | .hdrOther_05_05 => some (.inHeader, 0x05)
  | .hdrOther_06_07 x => some (.inHeader, rowByte 0x06 x)
  | .hdrOther_08_0F x => some (.inHeader, rowByte 0x08 x)
  | .hdrOther_10_1F x => some (.inHeader, rowByte 0x10 x)
  | .hdrOther_FF_FF => some (.inHeader, 0xFF)
  | .hdrSoh => some (.inHeader, 0x01)
  | .hdrStx => some (.inHeader, 0x02)
  | .hdrEtx => some (.inHeader, 0x03)
  | .hdrEot => some (.inHeader, 0x04)
  | .hdrPrint_20_3F x => some (.inHeader, rowByte 0x20 x)
  | .hdrPrint_40_7F x => some (.inHeader, rowByte 0x40 x)
  | .hdrPrint_80_BF x => some (.inHeader, rowByte 0x80 x)
  | .hdrPrint_C0_DF x => some (.inHeader, rowByte 0xC0 x)
  | .hdrPrint_E0_EF x => some (.inHeader, rowByte 0xE0 x)
  | .hdrPrint_F0_F7 x => some (.inHeader, rowByte 0xF0 x)
  | .hdrPrint_F8_FB x => some (.inHeader, rowByte 0xF8 x)
  | .hdrPrint_FC_FD x => some (.inHeader, rowByte 0xFC x)
  | .hdrPrint_FE_FE => some (.inHeader, 0xFE)
  | .bodyOther_00_00 => some (.inBody, 0x00)
  | .bodyOther_05_05 => some (.inBody, 0x05)
  | .bodyOther_06_07 x => some (.inBody, rowByte 0x06 x)
  | .bodyOther_08_0F x => some (.inBody, rowByte 0x08 x)
  | .bodyOther_10_1F x => some (.inBody, rowByte 0x10 x)
  | .bodyOther_FF_FF => some (.inBody, 0xFF)
  | .bodySoh => some (.inBody, 0x01)
  | .bodyStx => some (.inBody, 0x02)
  | .bodyEtx => some (.inBody, 0x03)
  | .bodyEot => some (.inBody, 0x04)
  | .bodyPrint_20_3F x => some (.inBody, rowByte 0x20 x)
  | .bodyPrint_40_7F x => some (.inBody, rowByte 0x40 x)
  | .bodyPrint_80_BF x => some (.inBody, rowByte 0x80 x)
  | .bodyPrint_C0_DF x => some (.inBody, rowByte 0xC0 x)
  | .bodyPrint_E0_EF x => some (.inBody, rowByte 0xE0 x)
  | .bodyPrint_F0_F7 x => some (.inBody, rowByte 0xF0 x)
  | .bodyPrint_F8_FB x => some (.inBody, rowByte 0xF8 x)
  | .bodyPrint_FC_FD x => some (.inBody, rowByte 0xFC x)
  | .bodyPrint_FE_FE => some (.inBody, 0xFE)
  | .crcNonhex_00_00 => some (.inCrc, 0x00)
  | .crcNonhex_05_05 => some (.inCrc, 0x05)
  | .crcNonhex_06_07 x => some (.inCrc, rowByte 0x06 x)
  | .crcNonhex_08_0F x => some (.inCrc, rowByte 0x08 x)
  | .crcNonhex_10_1F x => some (.inCrc, rowByte 0x10 x)
  | .crcNonhex_20_2F x => some (.inCrc, rowByte 0x20 x)
  | .crcNonhex_3A_3B x => some (.inCrc, rowByte 0x3A x)
  | .crcNonhex_3C_3F x => some (.inCrc, rowByte 0x3C x)
  | .crcNonhex_40_40 => some (.inCrc, 0x40)
  | .crcNonhex_47_47 => some (.inCrc, 0x47)
  | .crcNonhex_48_4F x => some (.inCrc, rowByte 0x48 x)
  | .crcNonhex_50_5F x => some (.inCrc, rowByte 0x50 x)
  | .crcNonhex_60_60 => some (.inCrc, 0x60)
  | .crcNonhex_67_67 => some (.inCrc, 0x67)
  | .crcNonhex_68_6F x => some (.inCrc, rowByte 0x68 x)
  | .crcNonhex_70_7F x => some (.inCrc, rowByte 0x70 x)
  | .crcNonhex_80_FF x => some (.inCrc, rowByte 0x80 x)
  | .crcSoh => some (.inCrc, 0x01)
  | .crcStx => some (.inCrc, 0x02)
  | .crcEtx => some (.inCrc, 0x03)
  | .crcEot => some (.inCrc, 0x04)
  | .crcHex_30_37 x => some (.inCrc, rowByte 0x30 x)
  | .crcHex_38_39 x => some (.inCrc, rowByte 0x38 x)
  | .crcHex_41_41 => some (.inCrc, 0x41)
  | .crcHex_42_43 x => some (.inCrc, rowByte 0x42 x)
  | .crcHex_44_45 x => some (.inCrc, rowByte 0x44 x)
  | .crcHex_46_46 => some (.inCrc, 0x46)
  | .crcHex_61_61 => some (.inCrc, 0x61)
  | .crcHex_62_63 x => some (.inCrc, rowByte 0x62 x)
  | .crcHex_64_65 x => some (.inCrc, rowByte 0x64 x)
  | .crcHex_66_66 => some (.inCrc, 0x66)
  | .cmd _ _ _ => none
  | .cmdNr _ _ _ => none
  | .excl _ => none
  | .release _ => none
  | .headerCmd => none
  | .headerResp _ => none
  | .headerErr _ => none
  | .encode _ _ => none
  | .crc32 _ => none
  | .decode _ => none

/-- The word an instruction is fetched from; `none` for the internal operations, which have no
instruction word (R103 (d)). The fields of a request record that `EXCL` and `RELEASE` ignore are
encoded as zeros (R185). -/
def encode (i : Instr) : Option Fetched :=
  match i with
  | .cmd p body timeout => some (.req p HostOp.cmd.code body timeout)
  | .cmdNr p body timeout => some (.req p HostOp.cmdNr.code body timeout)
  | .excl p => some (.req p HostOp.excl.code [] 0)
  | .release p => some (.req p HostOp.release.code [] 0)
  | .headerCmd => some (.sentHeader hdrCMD)
  | .headerResp body => some (.rxHeader hdrRESP body)
  | .headerErr body => some (.rxHeader hdrERR body)
  | .encode _ _ => none
  | .crc32 _ => none
  | .decode _ => none
  | i => i.rxWord.map fun w => .rx w.1 w.2

/-- What a bare table word of `nbits` bits and value `w` is (log entry 5). A header value is a
big-endian byte string of 24 or 32 bits (R103 (c)); a word of fewer than 8 bits is a host operation
code (R97), its operands zero; any other word is a received byte, in the low 8 bits. A word of no bits is
nothing: the internal operations have no instruction word. -/
inductive TableWord where
  | none
  | host (op : BitVec 2)
  | headerCmd
  | headerResp
  | headerErr
  | byte (b : Byte)
deriving DecidableEq, Repr

/-- Which of these a table word is. -/
def tableWord (nbits w : Nat) : TableWord :=
  if nbits = 0 then .none
  else if nbits < 8 then (if w < 4 then .host (BitVec.ofNat 2 w) else .none)
  else if nbits = 24 && w == 0x434D44 then .headerCmd
  else if nbits = 24 && w == 0x455252 then .headerErr
  else if nbits = 32 && w == 0x52455350 then .headerResp
  else .byte (BitVec.ofNat 8 w)

/-- The instruction the decoder reads from a table word by itself. The meaning of a byte depends on
`pstate` (R96), which the word does not carry: it is read against `Idle`, the parser state after reset
(R45), for this answers for the first instruction after reset (log entry 5). -/
def decodeTableWord (nbits w : Nat) : Option Instr :=
  match tableWord nbits w with
  | .none => Option.none
  | .host op => some (decodeReq 0 op [] 0)
  | .headerCmd => some .headerCmd
  | .headerResp => some (.headerResp [])
  | .headerErr => some (.headerErr [])
  | .byte b => some (decodeRx .idle b)

end Sys2Proof
end

