-- ==== Sys2Proof/Machine/Crc.lean ====
section
/-! DEFINITION. The CRC-32 generator (spec/40_crc32.md rules R110 to R114) and the hexadecimal digits of
rules R88, R116 and R117. -/

namespace Sys2Proof.Machine

/-- The generator polynomial in its bit-reversed form (R110). -/
def crcPoly : Word32 := 0xEDB88320

/-- `CrcInit()` (R111). -/
def crcInit : Word32 := 0xFFFFFFFF

/-- One turn of the loop of R112: the bit shifted out of bit 0 decides. -/
def crcShift (r : Word32) : Word32 :=
  if r.getLsbD 0 then (r >>> 1) ^^^ crcPoly else r >>> 1

/-- The loop of R112, `n` times. -/
def crcShifts : Nat → Word32 → Word32
  | 0, r => r
  | n + 1, r => crcShifts n (crcShift r)

/-- `CrcUpdate(r, b)` (R112). -/
def crcUpdate (r : Word32) (b : Byte) : Word32 := crcShifts 8 (r ^^^ b.setWidth 32)

/-- `CrcFinal(r)` (R113). -/
def crcFinal (r : Word32) : Word32 := r ^^^ 0xFFFFFFFF

/-- `CRC32(B)` (R110, R113): the bytes in string order, first byte first. -/
def crc32 (body : Bytes) : Word32 := crcFinal (body.foldl crcUpdate crcInit)

/-- The table of R114: entry `i` is the eight-fold loop applied to `zext_32(i)` alone. -/
def crcTable (i : Byte) : Word32 := crcShifts 8 (i.setWidth 32)

/-- The table form of the update (R114): `(r >> 8) ^ T[(r ^ zext_32(b))[7:0]]`. -/
def crcUpdateByTable (r : Word32) (b : Byte) : Word32 :=
  (r >>> 8) ^^^ crcTable ((r ^^^ b.setWidth 32).setWidth 8)

/-- `LowerHexDigit(d)` (R116): `0x30 + d` up to nine, `0x61 + d - 10` above. -/
def lowerHexDigit (d : BitVec 4) : Byte :=
  if d.toNat < 10 then 0x30 + d.setWidth 8 else 0x61 + (d.setWidth 8 - 10)

/-- `Hex8(c)` (R116): eight lowercase digits, most significant nibble first. -/
def hex8 (c : Word32) : Bytes :=
  [lowerHexDigit (c.extractLsb' 28 4), lowerHexDigit (c.extractLsb' 24 4),
   lowerHexDigit (c.extractLsb' 20 4), lowerHexDigit (c.extractLsb' 16 4),
   lowerHexDigit (c.extractLsb' 12 4), lowerHexDigit (c.extractLsb' 8 4),
   lowerHexDigit (c.extractLsb' 4 4), lowerHexDigit (c.extractLsb' 0 4)]

/-- `IsHex(b)` (R88): the 22 bytes of the characters `0` to `9`, `A` to `F`, `a` to `f`. -/
def isHex (b : Byte) : Bool :=
  (decide (0x30 ≤ b.toNat) && decide (b.toNat ≤ 0x39)) ||
  (decide (0x41 ≤ b.toNat) && decide (b.toNat ≤ 0x46)) ||
  (decide (0x61 ≤ b.toNat) && decide (b.toNat ≤ 0x66))

/-- `HexDigitVal(b)` (R88), a value 0 to 15 on the bytes `IsHex` admits; no rule takes it of another byte. -/
def hexDigitVal (b : Byte) : Nat :=
  if b.toNat ≤ 0x39 then b.toNat - 0x30
  else if b.toNat ≤ 0x46 then b.toNat - 0x41 + 10
  else b.toNat - 0x61 + 10

/-- A string of digits as a base-16 numeral, first digit most significant (R117). -/
def hexNumeral (s : Bytes) : Nat := s.foldl (fun v b => 16 * v + hexDigitVal b) 0

/-- `HexVal(s)` (R117): the empty string has no value; any other is read at whatever length it has. -/
def hexVal (s : Bytes) : Option Nat := if s = [] then none else some (hexNumeral s)

/-- The registers of the shift-register verifier (R119). -/
structure CrcShiftReg where
  acc : Word32
  ne : Bool
  ovf : Bool
deriving DecidableEq, Repr

/-- The shift register cleared (R119). -/
def crcShiftRegClear : CrcShiftReg := { acc := 0, ne := false, ovf := false }

/-- The shift register on one appended digit (R119). -/
def crcShiftRegPush (v : CrcShiftReg) (b : Byte) : CrcShiftReg :=
  { acc := (v.acc <<< 4) ||| BitVec.ofNat 32 (hexDigitVal b),
    ne := true,
    ovf := v.ovf || decide (v.acc.extractLsb' 28 4 ≠ 0) }

/-- The verifier's test in its shift-register form (R119), after the digits `s`. -/
def crcMatchByShiftReg (body s : Bytes) : Bool :=
  let v := s.foldl crcShiftRegPush crcShiftRegClear
  v.ne && !v.ovf && decide (v.acc = crc32 body)

end Sys2Proof.Machine
end

