-- ==== Sys2Proof/Machine/State.lean ====
section
/-! DEFINITION. The state of the block (spec/10_state.md rules R20 to R45), plain data, and its value after
reset. The fields marked MODEL are the model's own and no element of the spec's state; INVENTORY.md lists
every field with its rule. -/

namespace Sys2Proof.Machine

/-- The parser state of the Frame Codec (R20 (a), R21 to R24). -/
structure Parser where
  pstate : PState
  hdrBuf : Bytes
  bodyBuf : Bytes
  crcBuf : Bytes
deriving DecidableEq, Repr

/-- The parser "reset to `Idle` with empty buffers" (R136, R45). -/
def Parser.empty : Parser := { pstate := .idle, hdrBuf := [], bodyBuf := [], crcBuf := [] }

/-- The sequencer's phase register (R29, R100): 3 bits, of whose eight values 6 and 7 are never
written and, if found, are a fault of the implementation. -/
inductive TPhase where
  | idle
  | flush
  | send
  | drain
  | recv
  | excl
  | code6
  | code7
deriving DecidableEq, Repr

/-- One of the three parser buffers (R160). -/
inductive Buffer where
  | hdr
  | body
  | crc
deriving DecidableEq, Repr

/-- The Transport's failure reports other than `None` (R11, R43). -/
inductive XpErr where
  | writeFail
  | readFail
deriving DecidableEq, Repr

/-- The outcome of a result record (R98). -/
inductive TxOutcome where
  | success
  | applicationError
  | protocolError
  | transportError
  | timeout
  | noValidFrame
  | granted
  | refused
deriving DecidableEq, Repr

/-- The entries of the output trace (R101). -/
inductive Event where
  | invalidChar (st : PState) (b : Byte)
  | abort (st : PState)
  | restart (st : PState) (sentinel : Byte)
  | crcMismatch (computed : Word32) (crcText : Bytes)
  | overflow (which : Buffer)
  | frameOk (header body : Bytes)
  | decodeTimeout
deriving DecidableEq, Repr

/-- The output of one decoder step (R137). -/
inductive DecOut where
  | none
  | frame (header body : Bytes)
  | crcFail
deriving DecidableEq, Repr

/-- The result of a `DECODE` (R170). -/
inductive DecodeResult where
  | frame (header body : Bytes)
  | crcFail
  | timeout
  | transportError (r : XpErr)
deriving DecidableEq, Repr

/-- A request record `req[p]` (R32): `op` holds the 2-bit code of R97, `timeout` is a value of `TW` bits. -/
structure Request where
  op : BitVec 2
  body : Bytes
  timeout : Nat
deriving DecidableEq, Repr

/-- A result record `res[p]` (R33). `value` means something only for outcome `Success`, `appCode` and
`appMsg` only for `ApplicationError`; elsewhere each holds a free value (U25, log entry 4). -/
structure Result where
  outcome : TxOutcome
  diag : BitVec 3
  ok : Bool
  header : Bytes
  body : Bytes
  value : JsonValue
  appCode : Int
  appMsg : Text
deriving DecidableEq, Repr

/-- One requester port: its request and result records and their valid bits (R32, R33). -/
structure Port where
  reqValid : Bool
  req : Request
  resValid : Bool
  res : Result
deriving DecidableEq, Repr

/-- What may happen next (R44: the stream of bytes, the ticks, the arbiter's picks, the Transport's
reports and the callers' posts are parameters of the step relation, not state of the block). `own` and
`take` let the block act; the others are the environment's. -/
inductive Move where
  /-- The sequencer's step in its phase (R191 to R195, R213), the steps of `DECODE` among them. -/
  | own
  /-- The sequencer judges the request of port `p`: the arbiter's pick (R188), or the step of R210 to R212. -/
  | take (p : Nat)
  /-- One event of the time base (R172). -/
  | tick
  /-- A byte arrives from the line at the end of `rx_fifo` (R40). -/
  | rxArrive (b : Byte)
  /-- Another agent takes the byte at index `k` of `rx_fifo`, or it is lost (R262, R280, U28). -/
  | rxLose (k : Nat)
  /-- The Transport opens or closes the connection (R42). -/
  | xpOpen (v : Bool)
  /-- The Transport sets or clears its failure report (R43). -/
  | xpErr (e : Option XpErr)
  /-- The Transport sets or clears `tx_drained` (R43). -/
  | txDrained (v : Bool)
  /-- The Transport changes its baud rate or device path or pulses the control line: no element of this
  state is altered (R44, R273 (c)). -/
  | reconfigure
  /-- `HostPost(p, op, body, timeout)` (R185). -/
  | post (p : Nat) (op : BitVec 2) (body : Bytes) (timeout : Nat)
  /-- `HostCollect(p)` (R186). -/
  | collect (p : Nat)
  /-- The reset input `rst` is asserted (R270). -/
  | rst
deriving DecidableEq, Repr

/-- Why the machine stops with a fault. -/
inductive Fault where
  /-- `tphase` holds 6 or 7, which is "to be treated as a fault of the implementation" (R100). Raised by
  the sequencer's steps (`own` and `take`). Safe: no rule writes these values. -/
  | phaseCode
deriving DecidableEq, Repr

/-- Why the model gives no step. -/
inductive Refusal where
  /-- An instruction that has no meaning yet. No arm of `exec` answers with it. -/
  | notModelled (mnemonic : String)
  /-- A configuration outside R7 (`CRC_CAP` finite and below 8, `TW` 0, `TICK_HZ` not positive, no port),
  which U4 refuses. Raised by `step`. Safe. -/
  | configuration
  /-- A decoder step was asked for in a parser state it does not belong to: no rule applies it there
  (R139). Raised by the `rx_byte` meanings; `step` never asks. Safe. -/
  | otherParserState
  /-- A host operation names a port outside `0 .. NPORTS-1` (R185). Raised by the host operations; `step`
  never asks. Safe. -/
  | noSuchPort
  /-- A header value was asked for outside the phase that sends it (R191) or tests for it (R195). Raised by
  the header meanings; `step` never asks. Safe. -/
  | otherPhase
  /-- `DecodeStart` was asked for while a `DECODE` runs: its precondition is `dec_active = 0` (R171). Raised
  by `DECODE`; `step` asks so only in states no run reaches. Safe. -/
  | decodeRunning
deriving DecidableEq, Repr

/-- The state. -/
structure State where
  /-- The parameters of R7 that a rule reads: constant, see `Params` (log entry 2). -/
  params : Params
  /-- `pstate`, `hdr_buf`, `body_buf`, `crc_buf` (R21 to R24). -/
  parser : Parser
  /-- `dec_timer`, an unsigned counter of `TW` bits (R26). -/
  decTimer : Nat
  /-- `dec_active`, one bit (R26). -/
  decActive : Bool
  /-- `lock_owner`, `None` or a port number (R28). -/
  lockOwner : Option Nat
  /-- `tphase` (R29). -/
  tphase : TPhase
  /-- `cur_op` (R30). -/
  curOp : HostOp
  /-- `cur_body` (R30). -/
  curBody : Bytes
  /-- `cur_timeout`, `TW` bits (R30). -/
  curTimeout : Nat
  /-- `tx_frame` (R31). -/
  txFrame : Bytes
  /-- `tx_idx` (R31). -/
  txIdx : Nat
  /-- Per port, the request and result records (R32, R33); `NPORTS` is the length of this list. -/
  ports : List Port
  /-- `evlog`, the output trace, oldest event first (R36). -/
  evlog : List Event
  /-- `rx_fifo`, the Transport's receive backlog, oldest byte first (R40). -/
  rxFifo : Bytes
  /-- `tx_wire`, every byte handed to the Transport, in order (R41). -/
  txWire : Bytes
  /-- `xp_open` (R42). -/
  xpOpen : Bool
  /-- `xp_err`, `None` or a failure report (R43). -/
  xpErr : Option XpErr
  /-- `tx_drained` (R43). -/
  txDrained : Bool
  /-- MODEL: the output of the latest decoder step (R137), which its caller takes in the same step. -/
  decOut : DecOut
  /-- MODEL: the result of the latest `DECODE` to end (R170). -/
  decResult : Option DecodeResult
  /-- MODEL: the byte string the latest `ENCODE` instruction gave (R125). -/
  encOut : Bytes
  /-- MODEL: the value the latest `CRC32` instruction gave (R110). -/
  crcOut : Word32
  /-- MODEL: the port and record the latest `HostCollect` returned (R186). -/
  collected : Option (Nat × Result)
  /-- MODEL: how many results have been posted; the free values of the next one are drawn at this index
  (log entry 4). -/
  freeCount : Nat
  /-- MODEL: the moves to come, the next first. It stands for the schedule of R44; every list is a schedule
  (log entry 1). -/
  schedule : List Move
deriving DecidableEq, Repr

/-- The value of a request record after reset, which the spec leaves unspecified (R45; log entry 3). -/
def Request.afterReset : Request := { op := 0, body := [], timeout := 0 }

/-- The value of a result record after reset, which the spec leaves unspecified (R45; log entry 3). -/
def Result.afterReset : Result :=
  { outcome := .success, diag := 0, ok := false, header := [], body := [], value := .null,
    appCode := 0, appMsg := [] }

/-- A port after reset (R45). -/
def Port.afterReset : Port :=
  { reqValid := false, req := Request.afterReset, resValid := false, res := Result.afterReset }

/-- The configuration `State.reset` stands in: the unbounded buffers that reproduce the document (R7), and
values of the model's own for `TW` and `TICK_HZ` (log entry 2). -/
def Params.ofReset : Params :=
  { hdrCap := none, bodyCap := none, crcCap := none, txCap := none, tw := 16, tickHz := 1 }

/-- Every element at its reset value, for a configuration and a number of ports: R45 for the block's own
elements, log entry 3 for those R45 leaves unspecified and for the Transport's. -/
def State.resetWith (c : Params) (nports : Nat) : State where
  params := c
  parser := Parser.empty
  decTimer := 0
  decActive := false
  lockOwner := none
  tphase := .idle
  curOp := .cmd
  curBody := []
  curTimeout := 0
  txFrame := []
  txIdx := 0
  ports := List.replicate nports Port.afterReset
  evlog := []
  rxFifo := []
  txWire := []
  xpOpen := false
  xpErr := none
  txDrained := true
  decOut := .none
  decResult := none
  encOut := []
  crcOut := 0
  collected := none
  freeCount := 0
  schedule := []

/-- The machine right after reset (R270, R45), with two ports (log entry 2). -/
def State.reset : State := State.resetWith Params.ofReset 2

/-- What a meaning, and a step, answers. -/
abbrev Answer := Host.Outcome State Fault Refusal

end Sys2Proof.Machine
end

