-- ==== Sys2Proof/Machine/Operands.lean ====
section
/-! DEFINITION. The operands: byte classes (spec/30_encoding.md rules R84 to R88), the wire frame
(spec/41_encoder.md) and the numeric codes of spec/30_encoding.md rules R97 to R101. -/

namespace Sys2Proof.Machine

/-- SOH (R84). -/
def soh : Byte := 0x01
/-- STX (R84). -/
def stx : Byte := 0x02
/-- ETX (R84). -/
def etx : Byte := 0x03
/-- EOT (R84). -/
def eot : Byte := 0x04
/-- `PRINT_LO` (R7, R85). -/
def printLo : Byte := 0x20
/-- `PRINT_HI` (R7, R85). -/
def printHi : Byte := 0xFE

/-- The six byte classes (R86). -/
inductive ByteClass where
  | soh
  | stx
  | etx
  | eot
  | print
  | other
deriving DecidableEq, Repr

/-- A byte of the permitted header and body range (R85). -/
def isPrint (b : Byte) : Bool := decide (printLo.toNat ≤ b.toNat) && decide (b.toNat ≤ printHi.toNat)

/-- `Cls(b)` (R86): the tests in the order the rule gives. -/
def cls (b : Byte) : ByteClass :=
  if b = soh then .soh
  else if b = stx then .stx
  else if b = etx then .etx
  else if b = eot then .eot
  else if isPrint b then .print
  else .other

/-- `Clean(s)` (R128): the caller's obligation on a header or a body. -/
def clean (s : Bytes) : Bool := s.all isPrint

/-- `Encode(header, body)` (R125): nothing is validated, nothing escaped (R126). -/
def encodeFrame (header body : Bytes) : Bytes :=
  [soh] ++ header ++ [stx] ++ body ++ [etx] ++ hex8 (crc32 body) ++ [eot]

/-- The body bytes of a streamed frame: each is sent as the running CRC takes it in, then the CRC
field follows (R130). -/
def streamBody (r : Word32) : Bytes → Bytes
  | [] => [etx] ++ hex8 (crcFinal r) ++ [eot]
  | b :: rest => b :: streamBody (crcUpdate r b) rest

/-- The frame as a streaming encoder sends it (R130). -/
def encodeStream (header body : Bytes) : Bytes :=
  [soh] ++ header ++ [stx] ++ streamBody crcInit body

/-- The code of a parser state (R100). -/
def pstateCode : PState → BitVec 2
  | .idle => 0
  | .inHeader => 1
  | .inBody => 2
  | .inCrc => 3

/-- The code of a phase (R100). -/
def tphaseCode : TPhase → BitVec 3
  | .idle => 0
  | .flush => 1
  | .send => 2
  | .drain => 3
  | .recv => 4
  | .excl => 5
  | .code6 => 6
  | .code7 => 7

/-- The code of an outcome (R98). -/
def outcomeCode : TxOutcome → BitVec 3
  | .success => 0
  | .applicationError => 1
  | .protocolError => 2
  | .transportError => 3
  | .timeout => 4
  | .noValidFrame => 5
  | .granted => 6
  | .refused => 7

/-- The code of an event kind (R101). -/
def eventCode : Event → Nat
  | .invalidChar _ _ => 0
  | .abort _ => 1
  | .restart _ _ => 2
  | .crcMismatch _ _ => 3
  | .overflow _ => 4
  | .frameOk _ _ => 5
  | .decodeTimeout => 6

/-- `BAD_JSON` (R99). -/
def diagBadJson : BitVec 3 := 0
/-- `MISSING_KEYS` (R99). -/
def diagMissingKeys : BitVec 3 := 1
/-- `BAD_ERROR_SHAPE` (R99). -/
def diagBadErrorShape : BitVec 3 := 2
/-- `ERR_HEADER` (R99). -/
def diagErrHeader : BitVec 3 := 3
/-- `UNEXPECTED_HEADER` (R99). -/
def diagUnexpectedHeader : BitVec 3 := 4
/-- `NOT_OPEN` (R99). -/
def diagNotOpen : BitVec 3 := 0
/-- `CRC_MISMATCH` (R99). -/
def diagCrcMismatch : BitVec 3 := 0
/-- `NOT_HOLDER` (R99). -/
def diagNotHolder : BitVec 3 := 0
/-- `BODY_TOO_LONG` (R99). -/
def diagBodyTooLong : BitVec 3 := 1
/-- `HOLDING` (R99). -/
def diagHolding : BitVec 3 := 2
/-- `diag` of every outcome that has no sub-cause (R99). -/
def diagNone : BitVec 3 := 0

/-- `WRITE_FAIL` or `READ_FAIL` as a sub-cause (R99). -/
def diagOfXpErr : XpErr → BitVec 3
  | .writeFail => 1
  | .readFail => 2

end Sys2Proof.Machine
end

