-- ==== Sys2Proof/Machine/Flags.lean ====
section
/-! DEFINITION. The block has no persistent condition flag; these are the one-step values that act as
condition codes inside a rule (spec/10_state.md rule R34), and the Transport's status reads (R11). -/

namespace Sys2Proof.Machine

/-- `CrcMatch(body, s)` (R118): `HexVal(s) = Some v` and `v = CRC32(body)`. -/
def crcMatch (body s : Bytes) : Bool := decide (hexVal s = some (crc32 body).toNat)

/-- The "buffer full" test of an append (R34, R160); with the capacity `inf` it never holds. -/
def bufferFull (cap : Option Nat) (buf : Bytes) : Bool :=
  match cap with
  | none => false
  | some n => decide (buf.length = n)

/-- The "timer expired" test (R34, R173). -/
def timerExpired (s : State) : Bool := decide (s.decTimer = 0)

/-- `len(body) > TX_CAP` (R189); never with `TX_CAP = inf`. -/
def bodyTooLong (c : Params) (body : Bytes) : Bool :=
  match c.txCap with
  | none => false
  | some n => decide (n < body.length)

/-- `RxAvail()` (R11). -/
def rxAvail (s : State) : Bool := !s.rxFifo.isEmpty

/-- Port `p` holds the lock in `T_Excl` (R210, R211). -/
def holds (p : Nat) (s : State) : Bool := decide (s.lockOwner = some p) && decide (s.tphase = .excl)

end Sys2Proof.Machine
end

