-- ==== Sys2Proof/Machine/Ops.lean ====
section
/-! DEFINITION. The named operations every meaning is built from: the Transport primitives
(spec/00_scope.md rule R11), the trace (R10), the port records (R185, R186) and the two entries of
spec/60_exceptions.md: `parserReset` at the decoder's level (R253) and `finish` at the transaction's (R254).
There is no return instruction (R256); what stands for it is `hostCollect`. -/

namespace Sys2Proof.Machine

/-- `emit(e)` (R10). -/
def emit (e : Event) (s : State) : State := { s with evlog := s.evlog ++ [e] }

/-- What a decoder step returns (R137). -/
def setOut (o : DecOut) (s : State) : State := { s with decOut := o }

/-- Writes the parser state. -/
def setParser (q : Parser) (s : State) : State := { s with parser := q }

/-- `ParserReset` (R136), the decoder-level entry of every condition (R253). -/
def parserReset (s : State) : State := setParser Parser.empty s

/-- `RxPop()` with the byte already read (R11, R57): a destructive read. -/
def rxDrop (s : State) : State := { s with rxFifo := s.rxFifo.tail }

/-- `RxFlush()` (R11, R62). -/
def rxFlush (s : State) : State := { s with rxFifo := [] }

/-- `TxPush(b)` (R11): the record of the bytes handed to the line grows by one. `tx_drained` is the
Transport's own to set (R43; log entry 8). -/
def txPush (b : Byte) (s : State) : State := { s with txWire := s.txWire ++ [b] }

/-- Port `p` where there is one. -/
def portAt (p : Nat) (s : State) : Option Port := s.ports[p]?

/-- `req_valid[p]` (R32); no port, no request. -/
def reqValid (p : Nat) (s : State) : Bool := ((portAt p s).map Port.reqValid).getD false

/-- `res_valid[p]` (R33); no port, no result. -/
def resValid (p : Nat) (s : State) : Bool := ((portAt p s).map Port.resValid).getD false

/-- Changes the records of port `p` and of no other. -/
def modifyPort (p : Nat) (f : Port → Port) (s : State) : State := { s with ports := s.ports.modify p f }

/-- `req_valid[p] <- 0`. -/
def clearReq (p : Nat) (s : State) : State := modifyPort p (fun q => { q with reqValid := false }) s

/-- `res[p] <- r; res_valid[p] <- 1`; the free values of the next result are drawn afresh. -/
def postResult (p : Nat) (r : Result) (s : State) : State :=
  { modifyPort p (fun q => { q with res := r, resValid := true }) s with freeCount := s.freeCount + 1 }

/-- A result record whose `value`, `app_code` and `app_msg` are absent: each holds the free value of the
result being posted (R33, R196, U25; log entry 4). -/
def plainResult (o : TxOutcome) (diag : BitVec 3) (header body : Bytes) (s : State) : Result :=
  { outcome := o, diag := diag, ok := false, header := header, body := body,
    value := Config.freeJson s.freeCount, appCode := Config.freeAppCode s.freeCount,
    appMsg := Config.freeAppMsg s.freeCount }

/-- `{ outcome, diag, ok = 0, header = [], body = [] }`, as R189, R190, R209 to R213 write it. -/
def bareResult (o : TxOutcome) (diag : BitVec 3) (s : State) : Result := plainResult o diag [] [] s

/-- Takes the request of port `p` and answers it at once (R189, R190, R210, R212). -/
def answerRequest (p : Nat) (o : TxOutcome) (diag : BitVec 3) (s : State) : State :=
  postResult p (bareResult o diag s) (clearReq p s)

/-- The lock given up and the phase idle again (R205, R211). -/
def releaseLock (s : State) : State := { s with lockOwner := none, tphase := .idle }

/-- `Finish` (R205), the transaction-level entry, the same for success and failure (R254): the owner's
result is posted and the lock released in one step. With no owner there is no record to write; no rule
calls it so. -/
def finish (r : Result) (s : State) : State :=
  match s.lockOwner with
  | some p => releaseLock (postResult p r s)
  | none => releaseLock s

/-- The end of a `DECODE` (R173, R175 to R177): `dec_active <- 0; result <- d`. -/
def decodeEnd (d : DecodeResult) (s : State) : State := { s with decActive := false, decResult := some d }

/-- `DecodeStart(T)` (R171). -/
def decodeStart (t : Nat) (s : State) : State := { parserReset s with decTimer := t, decActive := true }

/-- `Tick` (R172). -/
def tick (s : State) : State :=
  if s.decActive ∧ 0 < s.decTimer then { s with decTimer := s.decTimer - 1 } else s

/-- May the caller of port `p` post (R185)? -/
def canPost (p : Nat) (s : State) : Bool :=
  decide (p < s.ports.length) && !reqValid p s && !resValid p s &&
    (decide (s.lockOwner ≠ some p) || decide (s.tphase = .excl))

/-- `HostPost(p, op, body, timeout)` (R185). A busy port accepts nothing, and a timeout wider than `TW` bits
cannot be driven on the port: the step does not exist, and the move changes nothing (log entry 7). -/
def hostPost (p : Nat) (op : BitVec 2) (body : Bytes) (timeout : Nat) (s : State) : State :=
  if canPost p s ∧ s.params.timeoutFits timeout then
    modifyPort p (fun q => { q with req := { op := op, body := body, timeout := timeout }, reqValid := true }) s
  else s

/-- `HostCollect(p)` (R186), the caller's acknowledgement (R256); not enabled, it changes nothing. -/
def hostCollect (p : Nat) (s : State) : State :=
  match portAt p s with
  | some q =>
    if q.resValid then
      { modifyPort p (fun q => { q with resValid := false }) s with collected := some (p, q.res) }
    else s
  | none => s

/-- Block reset (R270): the value `State.reset` gives every element of the block (log entry 3). The
Transport's elements are not touched (R272), nor are the parameters, the values already handed out
and the schedule. -/
def blockReset (s : State) : State :=
  { State.resetWith s.params s.ports.length with
    rxFifo := s.rxFifo, txWire := s.txWire, xpOpen := s.xpOpen, xpErr := s.xpErr, txDrained := s.txDrained,
    decOut := s.decOut, decResult := s.decResult, encOut := s.encOut, crcOut := s.crcOut,
    collected := s.collected, freeCount := s.freeCount, schedule := s.schedule }

end Sys2Proof.Machine
end

