-- ==== Sys2Proof/Machine/Classify.lean ====
section
/-! DEFINITION. The response classifier (spec/45_classifier_and_facade.md rules R221 to R227) and the result
records a finished `DECODE` gives (spec/44_transaction.md rules R196 to R204). -/

namespace Sys2Proof.Machine

/-- The text `result`. -/
def keyResult : Text := ['r', 'e', 's', 'u', 'l', 't']
/-- The text `error`. -/
def keyError : Text := ['e', 'r', 'r', 'o', 'r']
/-- The text `code`. -/
def keyCode : Text := ['c', 'o', 'd', 'e']
/-- The text `message`. -/
def keyMessage : Text := ['m', 'e', 's', 's', 'a', 'g', 'e']

/-- What a map of members gives for a key (R221). -/
def lookupMember (k : Text) : JsonMembers → Option JsonValue
  | .nil => none
  | .cons k' v rest => if k' = k then some v else lookupMember k rest

/-- `Member(v, k)` (R221): `None` whenever `v` is not an object. -/
def member (v : JsonValue) (k : Text) : Option JsonValue :=
  match v with
  | .obj m => lookupMember k m
  | _ => none

/-- `IsInt(q)` (R221). -/
def isInt (q : Rat) : Bool := decide (q.den = 1)

/-- `IsZero(w)` (R227). -/
def isZero (w : JsonValue) : Bool :=
  match w with
  | .num q => decide (q = 0)
  | _ => false

/-- What `ClassifyResp` yields (R222). -/
inductive Classified where
  | success (v : JsonValue)
  | applicationError (c : Int) (m : Text)
  | protocolError (g : BitVec 3)
deriving DecidableEq, Repr

/-- The shape `{code: int, message: string}` of an `error` member (R222, R224, R225). -/
def classifyError (e : JsonValue) : Classified :=
  match member e keyCode, member e keyMessage with
  | some (.num q), some (.str m) =>
    if isInt q then .applicationError q.num m else .protocolError diagBadErrorShape
  | _, _ => .protocolError diagBadErrorShape

/-- The classification of a body that parsed: `result` is looked for before `error` (R222, R226). -/
def classifyJson (v : JsonValue) : Classified :=
  match member v keyResult with
  | some w => .success w
  | none =>
    match member v keyError with
    | none => .protocolError diagMissingKeys
    | some e => classifyError e

/-- `ClassifyResp(B)` (R222), a pure function of the body and `JsonParse`. -/
def classifyResp (body : Bytes) : Classified :=
  match Config.jsonParse body with
  | none => .protocolError diagBadJson
  | some v => classifyJson v

/-- The `ok` bit of a `Success` (R204). -/
def okBit (op : HostOp) (v : JsonValue) : Bool := decide (op = .cmdNr) && isZero v

/-- The record of a `RESP` frame (R196, R200, R201, R204). -/
def respResult (body : Bytes) (s : State) : Result :=
  match classifyResp body with
  | .success v =>
    { plainResult .success diagNone hdrRESP body s with ok := okBit s.curOp v, value := v }
  | .applicationError c m =>
    { plainResult .applicationError diagNone hdrRESP body s with appCode := c, appMsg := m }
  | .protocolError g => plainResult .protocolError g hdrRESP body s

/-- The record of an `ERR` frame (R202): the device's text is the frame's body. -/
def errResult (body : Bytes) (s : State) : Result :=
  plainResult .protocolError diagErrHeader hdrERR body s

/-- The record of a frame with any other header (R203). -/
def unexpectedResult (header body : Bytes) (s : State) : Result :=
  plainResult .protocolError diagUnexpectedHeader header body s

/-- The record of a failed CRC (R198): nothing of the frame is delivered. -/
def crcFailResult (s : State) : Result := bareResult .noValidFrame diagCrcMismatch s

/-- The record of an expired timer (R197). -/
def timeoutResult (s : State) : Result := bareResult .timeout diagNone s

/-- The record of a Transport failure (R199, R213). -/
def xpErrResult (r : XpErr) (s : State) : Result := bareResult .transportError (diagOfXpErr r) s

end Sys2Proof.Machine
end

