-- ==== Sys2Proof/Machine/Codec.lean ====
section
/-! DEFINITION. The meanings of the internal operations `ENCODE` (spec/41_encoder.md rule R125), `CRC32`
(spec/40_crc32.md rule R110) and `DECODE` (spec/43_decode_call.md rules R170, R171). The first two write no
element of the block; the value they give stands in a field of the model's own (log entry 6). -/

namespace Sys2Proof.Machine

/-- `ENCODE` (R125). -/
def execEncode (header body : Bytes) (s : State) : Answer :=
  .next { s with encOut := encodeFrame header body }

/-- `CRC32` (R110). -/
def execCrc32 (body : Bytes) (s : State) : Answer := .next { s with crcOut := crc32 body }

/-- `DECODE` (R170): its start (R171), whose precondition is that no `DECODE` runs. The steps that advance
and end it are those of Machine/Fetch.lean (R172 to R177). -/
def execDecode (timeout : Nat) (s : State) : Answer :=
  if s.decActive then .refused .decodeRunning else .next (decodeStart timeout s)

end Sys2Proof.Machine
end

