-- ==== Sys2Proof/Machine/Headers.lean ====
section
/-! DEFINITION. The meanings of the header values (spec/44_transaction.md rules R191, R192, R201, R202): the
header the block sends, and the two it tests a received frame for. -/

namespace Sys2Proof.Machine

/-- `HEADER.CMD` (R191, R192): the stale backlog is discarded and the request frame, whose header is
always `"CMD"`, is loaded for sending. -/
def execHeaderCmd (s : State) : Answer :=
  if s.tphase = .flush then
    .next { rxFlush s with txFrame := encodeFrame hdrCMD s.curBody, txIdx := 0, tphase := .send }
  else .refused .otherPhase

/-- `HEADER.RESP` (R201): the `DECODE` of the transaction in flight gave a frame with header `"RESP"`. -/
def execHeaderResp (body : Bytes) (s : State) : Answer :=
  if s.tphase = .recv then .next (finish (respResult body s) s) else .refused .otherPhase

/-- `HEADER.ERR` (R202): the `DECODE` of the transaction in flight gave a frame with header `"ERR"`. -/
def execHeaderErr (body : Bytes) (s : State) : Answer :=
  if s.tphase = .recv then .next (finish (errResult body s) s) else .refused .otherPhase

end Sys2Proof.Machine
end

