-- ==== Sys2Proof/Machine/HostOps.lean ====
section
/-! DEFINITION. The meanings of the host operations (spec/44_transaction.md rules R187 to R190 and R209 to
R212): what the sequencer does with the request of port `p` once it judges it. -/

namespace Sys2Proof.Machine

/-- A host operation names one of the block's ports (R185). -/
def onPort (p : Nat) (s : State) (next : State) : Answer :=
  if p < s.ports.length then .next next else .refused .noSuchPort

/-- `Acquire` (R187): the lock is taken and the request latched; no stream is touched. -/
def acquire (op : HostOp) (p : Nat) (body : Bytes) (timeout : Nat) (s : State) : State :=
  { clearReq p s with
    lockOwner := some p, curOp := op, curBody := body, curTimeout := timeout, tphase := .flush }

/-- The grant of an exclusive hold (R209). The open state is not tested. -/
def grantHold (p : Nat) (s : State) : State :=
  { answerRequest p .granted diagNone s with lockOwner := some p, curOp := .excl, tphase := .excl }

/-- A request for the lock (R187 to R190, R209, R210): the holder is refused (R210); while the lock is held
the request waits and nothing changes (R188); once it is free, `granted` says what happens. -/
def requestLock (p : Nat) (granted : State → State) (s : State) : State :=
  if holds p s then answerRequest p .refused diagHolding s
  else if s.lockOwner = none then granted s
  else s

/-- A `CMD` or `CMD_NR` that gets the lock: the body length is judged first (R189), then the open state
(R190), then it starts (R187). -/
def startTransaction (op : HostOp) (p : Nat) (body : Bytes) (timeout : Nat) (s : State) : State :=
  if bodyTooLong s.params body then answerRequest p .refused diagBodyTooLong s
  else if s.xpOpen then acquire op p body timeout s
  else answerRequest p .transportError diagNotOpen s

/-- `CMD` (R187). -/
def execCmd (p : Nat) (body : Bytes) (timeout : Nat) (s : State) : Answer :=
  onPort p s (requestLock p (startTransaction .cmd p body timeout) s)

/-- `CMD_NR` (R187, R204). -/
def execCmdNr (p : Nat) (body : Bytes) (timeout : Nat) (s : State) : Answer :=
  onPort p s (requestLock p (startTransaction .cmdNr p body timeout) s)

/-- `EXCL` (R209, R210). -/
def execExcl (p : Nat) (s : State) : Answer := onPort p s (requestLock p (grantHold p) s)

/-- `RELEASE` (R211; R212 from a port that holds nothing). It does not wait for the lock. -/
def execRelease (p : Nat) (s : State) : Answer :=
  onPort p s
    (if holds p s then releaseLock (answerRequest p .granted diagNone s)
     else answerRequest p .refused diagNotHolder s)

end Sys2Proof.Machine
end

