-- ==== Sys2Proof/Machine/Decoder.lean ====
section
/-! DEFINITION. The twenty decoder steps (spec/42_decoder.md rules R140 to R159) and the buffer-overflow step
(R160), each once; the rows of the opcode table are these on their bytes. -/

namespace Sys2Proof.Machine

/-- A decoder step of parser state `st`: it takes place in that state and in no other (R139). -/
def inPState (st : PState) (s : State) (next : State) : Answer :=
  if s.parser.pstate = st then .next next else .refused .otherParserState

/-- `Overflow(which)` (R160): the byte is dropped and the frame abandoned. -/
def overflow (which : Buffer) (s : State) : State := setOut .none (parserReset (emit (.overflow which) s))

/-- The frame is abandoned on an illegal byte (R146, R152, R158; R242). -/
def invalidChar (st : PState) (b : Byte) (s : State) : State :=
  setOut .none (parserReset (emit (.invalidChar st b) s))

/-- The frame is abandoned on an EOT before its CRC field (R145, R150; R243). -/
def abortFrame (st : PState) (s : State) : State := setOut .none (parserReset (emit (.abort st) s))

/-- A sentinel that reopens a field already open or passed (R141, R147, R148, R153 to R155; R243). -/
def restart (st : PState) (sentinel : Byte) (q : Parser) (s : State) : State :=
  setOut .none (emit (.restart st sentinel) (setParser q s))

/-- `IDLE.SOH` (R140). -/
def idleSoh (s : State) : Answer :=
  inPState .idle s (setOut .none (setParser { s.parser with hdrBuf := [], pstate := .inHeader } s))

/-- `IDLE.SKIP` (R159): nothing is written. -/
def idleSkip (s : State) : Answer := inPState .idle s (setOut .none s)

/-- `HDR.SOH` (R141). -/
def hdrSoh (s : State) : Answer :=
  inPState .inHeader s (restart .inHeader soh { s.parser with hdrBuf := [] } s)

/-- `HDR.STX` (R142). -/
def hdrStx (s : State) : Answer :=
  inPState .inHeader s (setOut .none (setParser { s.parser with bodyBuf := [], pstate := .inBody } s))

/-- `HDR.ETX` (R143). -/
def hdrEtx (s : State) : Answer :=
  inPState .inHeader s (setOut .none (setParser { s.parser with crcBuf := [], pstate := .inCrc } s))

/-- `HDR.PRINT` (R144). -/
def hdrPrint (b : Byte) (s : State) : Answer :=
  inPState .inHeader s
    (if bufferFull s.params.hdrCap s.parser.hdrBuf then overflow .hdr s
     else setOut .none (setParser { s.parser with hdrBuf := s.parser.hdrBuf ++ [b] } s))

/-- `HDR.EOT` (R145). -/
def hdrEot (s : State) : Answer := inPState .inHeader s (abortFrame .inHeader s)

/-- `HDR.OTHER` (R146). -/
def hdrOther (b : Byte) (s : State) : Answer := inPState .inHeader s (invalidChar .inHeader b s)

/-- `BODY.SOH` (R147): all three buffers are cleared (D4). -/
def bodySoh (s : State) : Answer :=
  inPState .inBody s
    (restart .inBody soh { pstate := .inHeader, hdrBuf := [], bodyBuf := [], crcBuf := [] } s)

/-- `BODY.STX` (R148). -/
def bodyStx (s : State) : Answer :=
  inPState .inBody s (restart .inBody stx { s.parser with bodyBuf := [] } s)

/-- `BODY.ETX` (R149). -/
def bodyEtx (s : State) : Answer :=
  inPState .inBody s (setOut .none (setParser { s.parser with crcBuf := [], pstate := .inCrc } s))

/-- `BODY.EOT` (R150). -/
def bodyEot (s : State) : Answer := inPState .inBody s (abortFrame .inBody s)

/-- `BODY.PRINT` (R151). -/
def bodyPrint (b : Byte) (s : State) : Answer :=
  inPState .inBody s
    (if bufferFull s.params.bodyCap s.parser.bodyBuf then overflow .body s
     else setOut .none (setParser { s.parser with bodyBuf := s.parser.bodyBuf ++ [b] } s))

/-- `BODY.OTHER` (R152). -/
def bodyOther (b : Byte) (s : State) : Answer := inPState .inBody s (invalidChar .inBody b s)

/-- `CRC.SOH` (R153): all three buffers are cleared (D4). -/
def crcSoh (s : State) : Answer :=
  inPState .inCrc s
    (restart .inCrc soh { pstate := .inHeader, hdrBuf := [], bodyBuf := [], crcBuf := [] } s)

/-- `CRC.STX` (R154): `crc_buf` is not written. -/
def crcStx (s : State) : Answer :=
  inPState .inCrc s (restart .inCrc stx { s.parser with bodyBuf := [], pstate := .inBody } s)

/-- `CRC.ETX` (R155). -/
def crcEtx (s : State) : Answer :=
  inPState .inCrc s (restart .inCrc etx { s.parser with crcBuf := [] } s)

/-- The completion step (R156): the output is taken from the buffers as they are before the reset. -/
def complete (s : State) : State :=
  if crcMatch s.parser.bodyBuf s.parser.crcBuf then
    setOut (.frame s.parser.hdrBuf s.parser.bodyBuf)
      (parserReset (emit (.frameOk s.parser.hdrBuf s.parser.bodyBuf) s))
  else
    setOut .crcFail (parserReset (emit (.crcMismatch (crc32 s.parser.bodyBuf) s.parser.crcBuf) s))

/-- `CRC.EOT` (R156). -/
def crcEot (s : State) : Answer := inPState .inCrc s (complete s)

/-- `CRC.HEX` (R157): the digit is stored as received. -/
def crcHex (b : Byte) (s : State) : Answer :=
  inPState .inCrc s
    (if bufferFull s.params.crcCap s.parser.crcBuf then overflow .crc s
     else setOut .none (setParser { s.parser with crcBuf := s.parser.crcBuf ++ [b] } s))

/-- `CRC.NONHEX` (R158). -/
def crcNonhex (b : Byte) (s : State) : Answer := inPState .inCrc s (invalidChar .inCrc b s)

end Sys2Proof.Machine
end

