-- ==== Sys2Proof/Machine/RxBody.lean ====
section
/-! DEFINITION. The meanings of the `BODY.*` rows of spec/opcode_table.json: each row of a decoder step is that
step (Machine/Decoder.lean) on the row's byte. -/

namespace Sys2Proof.Machine

/-- `BODY.OTHER#00-00` (R152): byte 0x00. -/
def execBodyOther_00_00 (s : State) : Answer := bodyOther 0x00 s

/-- `BODY.OTHER#05-05` (R152): byte 0x05. -/
def execBodyOther_05_05 (s : State) : Answer := bodyOther 0x05 s

/-- `BODY.OTHER#06-07` (R152): byte 0x06 .. 0x07. -/
def execBodyOther_06_07 (x : BitVec 1) (s : State) : Answer := bodyOther (rowByte 0x06 x) s

/-- `BODY.OTHER#08-0F` (R152): byte 0x08 .. 0x0F. -/
def execBodyOther_08_0F (x : BitVec 3) (s : State) : Answer := bodyOther (rowByte 0x08 x) s

/-- `BODY.OTHER#10-1F` (R152): byte 0x10 .. 0x1F. -/
def execBodyOther_10_1F (x : BitVec 4) (s : State) : Answer := bodyOther (rowByte 0x10 x) s

/-- `BODY.OTHER#FF-FF` (R152): byte 0xFF. -/
def execBodyOther_FF_FF (s : State) : Answer := bodyOther 0xFF s

/-- `BODY.SOH` (R147): byte 0x01. -/
def execBodySoh (s : State) : Answer := bodySoh s

/-- `BODY.STX` (R148): byte 0x02. -/
def execBodyStx (s : State) : Answer := bodyStx s

/-- `BODY.ETX` (R149): byte 0x03. -/
def execBodyEtx (s : State) : Answer := bodyEtx s

/-- `BODY.EOT` (R150): byte 0x04. -/
def execBodyEot (s : State) : Answer := bodyEot s

/-- `BODY.PRINT#20-3F` (R151): byte 0x20 .. 0x3F. -/
def execBodyPrint_20_3F (x : BitVec 5) (s : State) : Answer := bodyPrint (rowByte 0x20 x) s

/-- `BODY.PRINT#40-7F` (R151): byte 0x40 .. 0x7F. -/
def execBodyPrint_40_7F (x : BitVec 6) (s : State) : Answer := bodyPrint (rowByte 0x40 x) s

/-- `BODY.PRINT#80-BF` (R151): byte 0x80 .. 0xBF. -/
def execBodyPrint_80_BF (x : BitVec 6) (s : State) : Answer := bodyPrint (rowByte 0x80 x) s

/-- `BODY.PRINT#C0-DF` (R151): byte 0xC0 .. 0xDF. -/
def execBodyPrint_C0_DF (x : BitVec 5) (s : State) : Answer := bodyPrint (rowByte 0xC0 x) s

/-- `BODY.PRINT#E0-EF` (R151): byte 0xE0 .. 0xEF. -/
def execBodyPrint_E0_EF (x : BitVec 4) (s : State) : Answer := bodyPrint (rowByte 0xE0 x) s

/-- `BODY.PRINT#F0-F7` (R151): byte 0xF0 .. 0xF7. -/
def execBodyPrint_F0_F7 (x : BitVec 3) (s : State) : Answer := bodyPrint (rowByte 0xF0 x) s

/-- `BODY.PRINT#F8-FB` (R151): byte 0xF8 .. 0xFB. -/
def execBodyPrint_F8_FB (x : BitVec 2) (s : State) : Answer := bodyPrint (rowByte 0xF8 x) s

/-- `BODY.PRINT#FC-FD` (R151): byte 0xFC .. 0xFD. -/
def execBodyPrint_FC_FD (x : BitVec 1) (s : State) : Answer := bodyPrint (rowByte 0xFC x) s

/-- `BODY.PRINT#FE-FE` (R151): byte 0xFE. -/
def execBodyPrint_FE_FE (s : State) : Answer := bodyPrint 0xFE s

end Sys2Proof.Machine
end

