-- ==== Sys2Proof/Machine/RxCrc.lean ====
section
/-! DEFINITION. The meanings of the `CRC.*` rows of spec/opcode_table.json: each row of a decoder step is that
step (Machine/Decoder.lean) on the row's byte. -/

namespace Sys2Proof.Machine

/-- `CRC.NONHEX#00-00` (R158): byte 0x00. -/
def execCrcNonhex_00_00 (s : State) : Answer := crcNonhex 0x00 s

/-- `CRC.NONHEX#05-05` (R158): byte 0x05. -/
def execCrcNonhex_05_05 (s : State) : Answer := crcNonhex 0x05 s

/-- `CRC.NONHEX#06-07` (R158): byte 0x06 .. 0x07. -/
def execCrcNonhex_06_07 (x : BitVec 1) (s : State) : Answer := crcNonhex (rowByte 0x06 x) s

/-- `CRC.NONHEX#08-0F` (R158): byte 0x08 .. 0x0F. -/
def execCrcNonhex_08_0F (x : BitVec 3) (s : State) : Answer := crcNonhex (rowByte 0x08 x) s

/-- `CRC.NONHEX#10-1F` (R158): byte 0x10 .. 0x1F. -/
def execCrcNonhex_10_1F (x : BitVec 4) (s : State) : Answer := crcNonhex (rowByte 0x10 x) s

/-- `CRC.NONHEX#20-2F` (R158): byte 0x20 .. 0x2F. -/
def execCrcNonhex_20_2F (x : BitVec 4) (s : State) : Answer := crcNonhex (rowByte 0x20 x) s

/-- `CRC.NONHEX#3A-3B` (R158): byte 0x3A .. 0x3B. -/
def execCrcNonhex_3A_3B (x : BitVec 1) (s : State) : Answer := crcNonhex (rowByte 0x3A x) s

/-- `CRC.NONHEX#3C-3F` (R158): byte 0x3C .. 0x3F. -/
def execCrcNonhex_3C_3F (x : BitVec 2) (s : State) : Answer := crcNonhex (rowByte 0x3C x) s

/-- `CRC.NONHEX#40-40` (R158): byte 0x40. -/
def execCrcNonhex_40_40 (s : State) : Answer := crcNonhex 0x40 s

/-- `CRC.NONHEX#47-47` (R158): byte 0x47. -/
def execCrcNonhex_47_47 (s : State) : Answer := crcNonhex 0x47 s

/-- `CRC.NONHEX#48-4F` (R158): byte 0x48 .. 0x4F. -/
def execCrcNonhex_48_4F (x : BitVec 3) (s : State) : Answer := crcNonhex (rowByte 0x48 x) s

/-- `CRC.NONHEX#50-5F` (R158): byte 0x50 .. 0x5F. -/
def execCrcNonhex_50_5F (x : BitVec 4) (s : State) : Answer := crcNonhex (rowByte 0x50 x) s

/-- `CRC.NONHEX#60-60` (R158): byte 0x60. -/
def execCrcNonhex_60_60 (s : State) : Answer := crcNonhex 0x60 s

/-- `CRC.NONHEX#67-67` (R158): byte 0x67. -/
def execCrcNonhex_67_67 (s : State) : Answer := crcNonhex 0x67 s

/-- `CRC.NONHEX#68-6F` (R158): byte 0x68 .. 0x6F. -/
def execCrcNonhex_68_6F (x : BitVec 3) (s : State) : Answer := crcNonhex (rowByte 0x68 x) s

/-- `CRC.NONHEX#70-7F` (R158): byte 0x70 .. 0x7F. -/
def execCrcNonhex_70_7F (x : BitVec 4) (s : State) : Answer := crcNonhex (rowByte 0x70 x) s

/-- `CRC.NONHEX#80-FF` (R158): byte 0x80 .. 0xFF. -/
def execCrcNonhex_80_FF (x : BitVec 7) (s : State) : Answer := crcNonhex (rowByte 0x80 x) s

/-- `CRC.SOH` (R153): byte 0x01. -/
def execCrcSoh (s : State) : Answer := crcSoh s

/-- `CRC.STX` (R154): byte 0x02. -/
def execCrcStx (s : State) : Answer := crcStx s

/-- `CRC.ETX` (R155): byte 0x03. -/
def execCrcEtx (s : State) : Answer := crcEtx s

/-- `CRC.EOT` (R156): byte 0x04. -/
def execCrcEot (s : State) : Answer := crcEot s

/-- `CRC.HEX#30-37` (R157): byte 0x30 .. 0x37. -/
def execCrcHex_30_37 (x : BitVec 3) (s : State) : Answer := crcHex (rowByte 0x30 x) s

/-- `CRC.HEX#38-39` (R157): byte 0x38 .. 0x39. -/
def execCrcHex_38_39 (x : BitVec 1) (s : State) : Answer := crcHex (rowByte 0x38 x) s

/-- `CRC.HEX#41-41` (R157): byte 0x41. -/
def execCrcHex_41_41 (s : State) : Answer := crcHex 0x41 s

/-- `CRC.HEX#42-43` (R157): byte 0x42 .. 0x43. -/
def execCrcHex_42_43 (x : BitVec 1) (s : State) : Answer := crcHex (rowByte 0x42 x) s

/-- `CRC.HEX#44-45` (R157): byte 0x44 .. 0x45. -/
def execCrcHex_44_45 (x : BitVec 1) (s : State) : Answer := crcHex (rowByte 0x44 x) s

/-- `CRC.HEX#46-46` (R157): byte 0x46. -/
def execCrcHex_46_46 (s : State) : Answer := crcHex 0x46 s

/-- `CRC.HEX#61-61` (R157): byte 0x61. -/
def execCrcHex_61_61 (s : State) : Answer := crcHex 0x61 s

/-- `CRC.HEX#62-63` (R157): byte 0x62 .. 0x63. -/
def execCrcHex_62_63 (x : BitVec 1) (s : State) : Answer := crcHex (rowByte 0x62 x) s

/-- `CRC.HEX#64-65` (R157): byte 0x64 .. 0x65. -/
def execCrcHex_64_65 (x : BitVec 1) (s : State) : Answer := crcHex (rowByte 0x64 x) s

/-- `CRC.HEX#66-66` (R157): byte 0x66. -/
def execCrcHex_66_66 (s : State) : Answer := crcHex 0x66 s

end Sys2Proof.Machine
end

