-- ==== Sys2Proof/Machine/RxHeader.lean ====
section
/-! DEFINITION. The meanings of the `HDR.*` rows of spec/opcode_table.json: each row of a decoder step is that
step (Machine/Decoder.lean) on the row's byte. -/

namespace Sys2Proof.Machine

/-- `HDR.OTHER#00-00` (R146): byte 0x00. -/
def execHdrOther_00_00 (s : State) : Answer := hdrOther 0x00 s

/-- `HDR.OTHER#05-05` (R146): byte 0x05. -/
def execHdrOther_05_05 (s : State) : Answer := hdrOther 0x05 s

/-- `HDR.OTHER#06-07` (R146): byte 0x06 .. 0x07. -/
def execHdrOther_06_07 (x : BitVec 1) (s : State) : Answer := hdrOther (rowByte 0x06 x) s

/-- `HDR.OTHER#08-0F` (R146): byte 0x08 .. 0x0F. -/
def execHdrOther_08_0F (x : BitVec 3) (s : State) : Answer := hdrOther (rowByte 0x08 x) s

/-- `HDR.OTHER#10-1F` (R146): byte 0x10 .. 0x1F. -/
def execHdrOther_10_1F (x : BitVec 4) (s : State) : Answer := hdrOther (rowByte 0x10 x) s

/-- `HDR.OTHER#FF-FF` (R146): byte 0xFF. -/
def execHdrOther_FF_FF (s : State) : Answer := hdrOther 0xFF s

/-- `HDR.SOH` (R141): byte 0x01. -/
def execHdrSoh (s : State) : Answer := hdrSoh s

/-- `HDR.STX` (R142): byte 0x02. -/
def execHdrStx (s : State) : Answer := hdrStx s

/-- `HDR.ETX` (R143): byte 0x03. -/
def execHdrEtx (s : State) : Answer := hdrEtx s

/-- `HDR.EOT` (R145): byte 0x04. -/
def execHdrEot (s : State) : Answer := hdrEot s

/-- `HDR.PRINT#20-3F` (R144): byte 0x20 .. 0x3F. -/
def execHdrPrint_20_3F (x : BitVec 5) (s : State) : Answer := hdrPrint (rowByte 0x20 x) s

/-- `HDR.PRINT#40-7F` (R144): byte 0x40 .. 0x7F. -/
def execHdrPrint_40_7F (x : BitVec 6) (s : State) : Answer := hdrPrint (rowByte 0x40 x) s

/-- `HDR.PRINT#80-BF` (R144): byte 0x80 .. 0xBF. -/
def execHdrPrint_80_BF (x : BitVec 6) (s : State) : Answer := hdrPrint (rowByte 0x80 x) s

/-- `HDR.PRINT#C0-DF` (R144): byte 0xC0 .. 0xDF. -/
def execHdrPrint_C0_DF (x : BitVec 5) (s : State) : Answer := hdrPrint (rowByte 0xC0 x) s

/-- `HDR.PRINT#E0-EF` (R144): byte 0xE0 .. 0xEF. -/
def execHdrPrint_E0_EF (x : BitVec 4) (s : State) : Answer := hdrPrint (rowByte 0xE0 x) s

/-- `HDR.PRINT#F0-F7` (R144): byte 0xF0 .. 0xF7. -/
def execHdrPrint_F0_F7 (x : BitVec 3) (s : State) : Answer := hdrPrint (rowByte 0xF0 x) s

/-- `HDR.PRINT#F8-FB` (R144): byte 0xF8 .. 0xFB. -/
def execHdrPrint_F8_FB (x : BitVec 2) (s : State) : Answer := hdrPrint (rowByte 0xF8 x) s

/-- `HDR.PRINT#FC-FD` (R144): byte 0xFC .. 0xFD. -/
def execHdrPrint_FC_FD (x : BitVec 1) (s : State) : Answer := hdrPrint (rowByte 0xFC x) s

/-- `HDR.PRINT#FE-FE` (R144): byte 0xFE. -/
def execHdrPrint_FE_FE (s : State) : Answer := hdrPrint 0xFE s

end Sys2Proof.Machine
end

