-- ==== Sys2Proof/Machine/RxIdle.lean ====
section
/-! DEFINITION. The meanings of the `IDLE.*` rows of spec/opcode_table.json: each row of a decoder step is that
step (Machine/Decoder.lean) on the row's byte. -/

namespace Sys2Proof.Machine

/-- `IDLE.SKIP#00-00` (R159): byte 0x00. -/
def execIdleSkip_00_00 (s : State) : Answer := idleSkip s

/-- `IDLE.SKIP#02-03` (R159): byte 0x02 .. 0x03. -/
def execIdleSkip_02_03 (_x : BitVec 1) (s : State) : Answer := idleSkip s

/-- `IDLE.SKIP#04-07` (R159): byte 0x04 .. 0x07. -/
def execIdleSkip_04_07 (_x : BitVec 2) (s : State) : Answer := idleSkip s

/-- `IDLE.SKIP#08-0F` (R159): byte 0x08 .. 0x0F. -/
def execIdleSkip_08_0F (_x : BitVec 3) (s : State) : Answer := idleSkip s

/-- `IDLE.SKIP#10-1F` (R159): byte 0x10 .. 0x1F. -/
def execIdleSkip_10_1F (_x : BitVec 4) (s : State) : Answer := idleSkip s

/-- `IDLE.SKIP#20-3F` (R159): byte 0x20 .. 0x3F. -/
def execIdleSkip_20_3F (_x : BitVec 5) (s : State) : Answer := idleSkip s

/-- `IDLE.SKIP#40-7F` (R159): byte 0x40 .. 0x7F. -/
def execIdleSkip_40_7F (_x : BitVec 6) (s : State) : Answer := idleSkip s

/-- `IDLE.SKIP#80-FF` (R159): byte 0x80 .. 0xFF. -/
def execIdleSkip_80_FF (_x : BitVec 7) (s : State) : Answer := idleSkip s

/-- `IDLE.SOH` (R140): byte 0x01. -/
def execIdleSoh (s : State) : Answer := idleSoh s

end Sys2Proof.Machine
end

