-- ==== Sys2Proof/Machine/Dispatch.lean ====
section
/-! DEFINITION. The dispatch of an instruction to its meaning, one arm per constructor of `Instr`. -/

namespace Sys2Proof.Machine

def exec (i : Instr) (s : State) : Host.Outcome State Fault Refusal :=
  match i with
  | .idleSkip_00_00 => Sys2Proof.Machine.execIdleSkip_00_00 s
  | .idleSkip_02_03 x => Sys2Proof.Machine.execIdleSkip_02_03 x s
  | .idleSkip_04_07 x => Sys2Proof.Machine.execIdleSkip_04_07 x s
  | .idleSkip_08_0F x => Sys2Proof.Machine.execIdleSkip_08_0F x s
  | .idleSkip_10_1F x => Sys2Proof.Machine.execIdleSkip_10_1F x s
  | .idleSkip_20_3F x => Sys2Proof.Machine.execIdleSkip_20_3F x s
  | .idleSkip_40_7F x => Sys2Proof.Machine.execIdleSkip_40_7F x s
  | .idleSkip_80_FF x => Sys2Proof.Machine.execIdleSkip_80_FF x s
  | .idleSoh => Sys2Proof.Machine.execIdleSoh s
  | .hdrOther_00_00 => Sys2Proof.Machine.execHdrOther_00_00 s
  | .hdrOther_05_05 => Sys2Proof.Machine.execHdrOther_05_05 s
  | .hdrOther_06_07 x => Sys2Proof.Machine.execHdrOther_06_07 x s
  | .hdrOther_08_0F x => Sys2Proof.Machine.execHdrOther_08_0F x s
  | .hdrOther_10_1F x => Sys2Proof.Machine.execHdrOther_10_1F x s
  | .hdrOther_FF_FF => Sys2Proof.Machine.execHdrOther_FF_FF s
  | .hdrSoh => Sys2Proof.Machine.execHdrSoh s
  | .hdrStx => Sys2Proof.Machine.execHdrStx s
  | .hdrEtx => Sys2Proof.Machine.execHdrEtx s
  | .hdrEot => Sys2Proof.Machine.execHdrEot s
  | .hdrPrint_20_3F x => Sys2Proof.Machine.execHdrPrint_20_3F x s
  | .hdrPrint_40_7F x => Sys2Proof.Machine.execHdrPrint_40_7F x s
  | .hdrPrint_80_BF x => Sys2Proof.Machine.execHdrPrint_80_BF x s
  | .hdrPrint_C0_DF x => Sys2Proof.Machine.execHdrPrint_C0_DF x s
  | .hdrPrint_E0_EF x => Sys2Proof.Machine.execHdrPrint_E0_EF x s
  | .hdrPrint_F0_F7 x => Sys2Proof.Machine.execHdrPrint_F0_F7 x s
  | .hdrPrint_F8_FB x => Sys2Proof.Machine.execHdrPrint_F8_FB x s
  | .hdrPrint_FC_FD x => Sys2Proof.Machine.execHdrPrint_FC_FD x s
  | .hdrPrint_FE_FE => Sys2Proof.Machine.execHdrPrint_FE_FE s
  | .bodyOther_00_00 => Sys2Proof.Machine.execBodyOther_00_00 s
  | .bodyOther_05_05 => Sys2Proof.Machine.execBodyOther_05_05 s
  | .bodyOther_06_07 x => Sys2Proof.Machine.execBodyOther_06_07 x s
  | .bodyOther_08_0F x => Sys2Proof.Machine.execBodyOther_08_0F x s
  | .bodyOther_10_1F x => Sys2Proof.Machine.execBodyOther_10_1F x s
  | .bodyOther_FF_FF => Sys2Proof.Machine.execBodyOther_FF_FF s
  | .bodySoh => Sys2Proof.Machine.execBodySoh s
  | .bodyStx => Sys2Proof.Machine.execBodyStx s
  | .bodyEtx => Sys2Proof.Machine.execBodyEtx s
  | .bodyEot => Sys2Proof.Machine.execBodyEot s
  | .bodyPrint_20_3F x => Sys2Proof.Machine.execBodyPrint_20_3F x s
  | .bodyPrint_40_7F x => Sys2Proof.Machine.execBodyPrint_40_7F x s
  | .bodyPrint_80_BF x => Sys2Proof.Machine.execBodyPrint_80_BF x s
  | .bodyPrint_C0_DF x => Sys2Proof.Machine.execBodyPrint_C0_DF x s
  | .bodyPrint_E0_EF x => Sys2Proof.Machine.execBodyPrint_E0_EF x s
  | .bodyPrint_F0_F7 x => Sys2Proof.Machine.execBodyPrint_F0_F7 x s
  | .bodyPrint_F8_FB x => Sys2Proof.Machine.execBodyPrint_F8_FB x s
  | .bodyPrint_FC_FD x => Sys2Proof.Machine.execBodyPrint_FC_FD x s
  | .bodyPrint_FE_FE => Sys2Proof.Machine.execBodyPrint_FE_FE s
  | .crcNonhex_00_00 => Sys2Proof.Machine.execCrcNonhex_00_00 s
  | .crcNonhex_05_05 => Sys2Proof.Machine.execCrcNonhex_05_05 s
  | .crcNonhex_06_07 x => Sys2Proof.Machine.execCrcNonhex_06_07 x s
  | .crcNonhex_08_0F x => Sys2Proof.Machine.execCrcNonhex_08_0F x s
  | .crcNonhex_10_1F x => Sys2Proof.Machine.execCrcNonhex_10_1F x s
  | .crcNonhex_20_2F x => Sys2Proof.Machine.execCrcNonhex_20_2F x s
  | .crcNonhex_3A_3B x => Sys2Proof.Machine.execCrcNonhex_3A_3B x s
  | .crcNonhex_3C_3F x => Sys2Proof.Machine.execCrcNonhex_3C_3F x s
  | .crcNonhex_40_40 => Sys2Proof.Machine.execCrcNonhex_40_40 s
  | .crcNonhex_47_47 => Sys2Proof.Machine.execCrcNonhex_47_47 s
  | .crcNonhex_48_4F x => Sys2Proof.Machine.execCrcNonhex_48_4F x s
  | .crcNonhex_50_5F x => Sys2Proof.Machine.execCrcNonhex_50_5F x s
  | .crcNonhex_60_60 => Sys2Proof.Machine.execCrcNonhex_60_60 s
  | .crcNonhex_67_67 => Sys2Proof.Machine.execCrcNonhex_67_67 s
  | .crcNonhex_68_6F x => Sys2Proof.Machine.execCrcNonhex_68_6F x s
  | .crcNonhex_70_7F x => Sys2Proof.Machine.execCrcNonhex_70_7F x s
  | .crcNonhex_80_FF x => Sys2Proof.Machine.execCrcNonhex_80_FF x s
  | .crcSoh => Sys2Proof.Machine.execCrcSoh s
  | .crcStx => Sys2Proof.Machine.execCrcStx s
  | .crcEtx => Sys2Proof.Machine.execCrcEtx s
  | .crcEot => Sys2Proof.Machine.execCrcEot s
  | .crcHex_30_37 x => Sys2Proof.Machine.execCrcHex_30_37 x s
  | .crcHex_38_39 x => Sys2Proof.Machine.execCrcHex_38_39 x s
  | .crcHex_41_41 => Sys2Proof.Machine.execCrcHex_41_41 s
  | .crcHex_42_43 x => Sys2Proof.Machine.execCrcHex_42_43 x s
  | .crcHex_44_45 x => Sys2Proof.Machine.execCrcHex_44_45 x s
  | .crcHex_46_46 => Sys2Proof.Machine.execCrcHex_46_46 s
  | .crcHex_61_61 => Sys2Proof.Machine.execCrcHex_61_61 s
  | .crcHex_62_63 x => Sys2Proof.Machine.execCrcHex_62_63 x s
  | .crcHex_64_65 x => Sys2Proof.Machine.execCrcHex_64_65 x s
  | .crcHex_66_66 => Sys2Proof.Machine.execCrcHex_66_66 s
  | .cmd p body timeout => Sys2Proof.Machine.execCmd p body timeout s
  | .cmdNr p body timeout => Sys2Proof.Machine.execCmdNr p body timeout s
  | .excl p => Sys2Proof.Machine.execExcl p s
  | .release p => Sys2Proof.Machine.execRelease p s
  | .headerCmd => Sys2Proof.Machine.execHeaderCmd s
  | .headerResp body => Sys2Proof.Machine.execHeaderResp body s
  | .headerErr body => Sys2Proof.Machine.execHeaderErr body s
  | .encode header body => Sys2Proof.Machine.execEncode header body s
  | .crc32 body => Sys2Proof.Machine.execCrc32 body s
  | .decode timeout => Sys2Proof.Machine.execDecode timeout s

end Sys2Proof.Machine
end

