-- ==== Sys2Proof/Machine/Fetch.lean ====
section
/-! DEFINITION. Where each instruction is fetched from and what surrounds it: the steps of `DECODE`
(spec/43_decode_call.md rules R173 to R177), the sequencer's phases (spec/44_transaction.md rules R191 to
R195, R213), the taking of a request (R187 to R190, R209 to R212), and the environment's moves (R44). -/

namespace Sys2Proof.Machine

/-- Runs a decoded instruction; a word the decoder rejects goes to `otherwise`. -/
def runDecoded (d : Decoded) (s : State) (otherwise : State) : Answer :=
  match d with
  | .instr i => exec i s
  | .rejected _ => .next otherwise

/-- The frame a `DECODE` has given is classified by its header and the transaction finished (R175, R195,
R200 to R203, R205). -/
def frameEnd (h body : Bytes) (s : State) : Answer :=
  runDecoded (decode (.rxHeader h body)) (decodeEnd (.frame h body) s)
    (finish (unexpectedResult h body s) (decodeEnd (.frame h body) s))

/-- What the byte step does with the decoder's output (R174 to R176), in the same atomic step. -/
def afterByte (s : State) : Answer :=
  match s.decOut with
  | .none => .next s
  | .frame h body => frameEnd h body s
  | .crcFail => .next (finish (crcFailResult s) (decodeEnd .crcFail s))

/-- Goes on from an answer that is a next state. -/
def andThen (a : Answer) (k : State → Answer) : Answer :=
  match a with
  | .next s => k s
  | .fault f => .fault f
  | .refused r => .refused r

/-- The byte step (R174): the byte `b` at the front of `rx_fifo` is popped, decoded against `pstate` and its
instruction run. -/
def byteStep (b : Byte) (s : State) : Answer :=
  andThen (runDecoded (decode (.rx s.parser.pstate b)) (rxDrop s) (rxDrop s)) afterByte

/-- The `TransportError` end (R177, R199, R205). -/
def recvFail (r : XpErr) (s : State) : State :=
  finish (xpErrResult r s) (decodeEnd (.transportError r) (parserReset s))

/-- The `Timeout` end (R173, R197, R205). -/
def recvExpire (s : State) : State :=
  finish (timeoutResult s) (decodeEnd .timeout (parserReset (emit .decodeTimeout s)))

/-- The steps of a running `DECODE` in their order of precedence (R177, then R173, then R174; R252 (c)).
With no byte to take it waits, and nothing changes. -/
def recvStep (s : State) : Answer :=
  if s.decActive then
    match s.xpErr with
    | some r => .next (recvFail r s)
    | none =>
      if timerExpired s then .next (recvExpire s)
      else
        match s.rxFifo with
        | [] => .next s
        | b :: _ => byteStep b s
  else .next s

/-- `SendByte` (R193): the phase is tested after the increment. -/
def sendByte (s : State) : State :=
  match s.txFrame[s.txIdx]? with
  | some b =>
    { txPush b s with
      txIdx := s.txIdx + 1,
      tphase := if s.txIdx + 1 = s.txFrame.length then .drain else s.tphase }
  | none => s

/-- `Drain` (R194): once the Transport reports the line drained, the `DECODE` is started and the receive
phase entered; until then nothing changes (U15). -/
def drainStep (s : State) : Answer :=
  if s.txDrained then
    andThen (exec (.decode s.curTimeout) s) fun t => .next { t with tphase := .recv }
  else .next s

/-- A Transport failure outside the receive phase (R213), which has precedence over the phase's own
step. -/
def unlessXpErr (s : State) (k : Answer) : Answer :=
  match s.xpErr with
  | some r => .next (finish (xpErrResult r s) (parserReset s))
  | none => k

/-- The sequencer's step in its phase (R191, R193, R194, R195). In `T_Idle` and `T_Excl` it does nothing of
its own (R209, R265). -/
def sequencerStep (s : State) : Answer :=
  match s.tphase with
  | .idle => .next s
  | .flush => unlessXpErr s (runDecoded (decode (.sentHeader hdrCMD)) s s)
  | .send => unlessXpErr s (.next (sendByte s))
  | .drain => unlessXpErr s (drainStep s)
  | .recv => recvStep s
  | .excl => .next s
  | .code6 => .fault .phaseCode
  | .code7 => .fault .phaseCode

/-- The phase register holds a value that is never written (R100). -/
def phaseIllegal (s : State) : Bool := decide (s.tphase = .code6) || decide (s.tphase = .code7)

/-- The sequencer judges the request of port `p` (R187 to R190, R209 to R212): the record is fetched,
decoded and its instruction run. With no request there, nothing changes. -/
def takeRequest (p : Nat) (s : State) : Answer :=
  if phaseIllegal s then .fault .phaseCode
  else
    match portAt p s with
    | some q =>
      if q.reqValid then runDecoded (decode (.req p q.req.op q.req.body q.req.timeout)) s s else .next s
    | none => .next s

/-- One move. -/
def applyMove (m : Move) (s : State) : Answer :=
  match m with
  | .own => sequencerStep s
  | .take p => takeRequest p s
  | .tick => .next (tick s)
  | .rxArrive b => .next { s with rxFifo := s.rxFifo ++ [b] }
  | .rxLose k => .next { s with rxFifo := s.rxFifo.eraseIdx k }
  | .xpOpen v => .next { s with xpOpen := v }
  | .xpErr e => .next { s with xpErr := e }
  | .txDrained v => .next { s with txDrained := v }
  | .reconfigure => .next s
  | .post p op body timeout => .next (hostPost p op body timeout s)
  | .collect p => .next (hostCollect p s)
  | .rst => .next (blockReset s)

/-- The configuration is one of R7's, with at least one port. -/
def configOk (s : State) : Bool := s.params.ok && !s.ports.isEmpty

/-- One step: the next move of the schedule is made. With no move to come nothing happens (log entry 1). -/
def runStep (s : State) : Answer :=
  if configOk s then
    match s.schedule with
    | [] => .next s
    | m :: rest => applyMove m { s with schedule := rest }
  else .refused .configuration

/-- The schedule with one move put before it. -/
def scheduled (m : Move) (s : State) : State := { s with schedule := m :: s.schedule }

/-- A running receive phase with one byte waiting: what the fetch of a received byte needs (R174). -/
def awaiting (bytes : Bytes) (s : State) : State :=
  scheduled .own
    { s with
      rxFifo := bytes ++ s.rxFifo, lockOwner := some (s.lockOwner.getD 0), tphase := .recv,
      decActive := true, decTimer := s.decTimer + 1, xpErr := none }

/-- A frame with header `h` and an empty body, received but for its EOT (R196): what the fetch of a
received header needs. -/
def awaitingHeader (h : Bytes) (s : State) : State :=
  awaiting [eot] (setParser { pstate := .inCrc, hdrBuf := h, bodyBuf := [], crcBuf := hex8 (crc32 []) } s)

/-- The word `w` of `nbits` bits placed where the next step fetches it (log entry 5). -/
def placeWord (s : State) (nbits w : Nat) : State :=
  match tableWord nbits w with
  | .none => s
  | .host op =>
    scheduled (.take 0)
      (modifyPort 0 (fun q => { q with reqValid := true, req := { op := op, body := [], timeout := 0 } }) s)
  | .headerCmd =>
    scheduled .own { s with lockOwner := some (s.lockOwner.getD 0), tphase := .flush, xpErr := none }
  | .headerResp => awaitingHeader hdrRESP s
  | .headerErr => awaitingHeader hdrERR s
  | .byte b => awaiting [b] s

end Sys2Proof.Machine
end

