-- ==== Sys2Proof/Machine/Step.lean ====
section
/-! DEFINITION. The step of the machine; all of it is in Machine/Fetch.lean. -/

namespace Sys2Proof.Machine

/-- One step of the machine. -/
def step (s : State) : Host.Outcome State Fault Refusal := runStep s

/-- `s` with the instruction word `w` of `nbits` bits placed where `step` fetches its next instruction. -/
def State.withFetchWord (s : State) (nbits w : Nat) : State := placeWord s nbits w

end Sys2Proof.Machine
end

