-- ==== Sys2Proof/Safety.lean ====
section
/-! DEFINITION. What counts as a good state and a well-behaved environment, in the terms the claims use. -/

namespace Sys2Proof.Machine

/-- No more bytes than a capacity admits; `none` is the spec's `inf` (R22 to R24). -/
def fits (cap : Option Nat) (buf : Bytes) : Prop := ∀ n, cap = some n → buf.length ≤ n

/-- The parser invariants INV1 and INV2 of R25, and what R22 to R24 say the buffers hold. INV3 claims
nothing; INV4 speaks of a step, not of a state. -/
structure Parser.Inv (c : Params) (q : Parser) : Prop where
  idle_empty : q.pstate = .idle → q.hdrBuf = [] ∧ q.bodyBuf = [] ∧ q.crcBuf = []
  header_empty : q.pstate = .inHeader → q.bodyBuf = [] ∧ q.crcBuf = []
  hdr_print : ∀ b ∈ q.hdrBuf, isPrint b = true
  body_print : ∀ b ∈ q.bodyBuf, isPrint b = true
  crc_hex : ∀ b ∈ q.crcBuf, isHex b = true
  hdr_fits : fits c.hdrCap q.hdrBuf
  body_fits : fits c.bodyCap q.bodyBuf
  crc_fits : fits c.crcCap q.crcBuf

/-- A transaction is in flight: the phases of `CMD` and `CMD_NR` (R280). -/
def TPhase.active : TPhase → Bool
  | .flush => true
  | .send => true
  | .drain => true
  | .recv => true
  | _ => false

/-- The phases in which `tx_frame` is the frame being sent (R31). -/
def TPhase.sending : TPhase → Bool
  | .send => true
  | .drain => true
  | _ => false

/-- The invariant of the whole block: the configuration is one of R7's, the parser's own (R22 to R25), the
lock and the phase (R28, R29, R100), the latched request (R30), the frame being sent (R31, R192, R193), the
timer (R26, R32), the `DECODE` (R170, R171, R195) and the ports (R185, R205). -/
structure Inv (s : State) : Prop where
  config : configOk s = true
  parser : Parser.Inv s.params s.parser
  lock_phase : s.tphase = .idle ↔ s.lockOwner = none
  owner_is_port : ∀ p, s.lockOwner = some p → p < s.ports.length
  phase_legal : phaseIllegal s = false
  decode_runs : s.decActive = true ↔ s.tphase = .recv
  parser_at_rest : s.decActive = false → s.parser = Parser.empty
  hold_op : s.tphase = .excl → s.curOp = .excl
  latched_op : s.tphase.active = true → s.curOp = .cmd ∨ s.curOp = .cmdNr
  latched_body : s.tphase.active = true → bodyTooLong s.params s.curBody = false
  frame_loaded : s.tphase.sending = true → s.txFrame = encodeFrame hdrCMD s.curBody
  send_index : s.tphase = .send → s.txIdx < s.txFrame.length
  drain_index : s.tphase = .drain → s.txIdx = s.txFrame.length
  timer_fits : s.params.timeoutFits s.decTimer = true
  latched_fits : s.params.timeoutFits s.curTimeout = true
  posted_fits : ∀ q ∈ s.ports, s.params.timeoutFits q.req.timeout = true
  one_record : ∀ q ∈ s.ports, q.reqValid = true → q.resValid = false
  timer_within : s.tphase = .recv → s.decTimer ≤ s.curTimeout
  owner_port_free : ∀ p, s.lockOwner = some p → s.tphase.active = true →
    reqValid p s = false ∧ resValid p s = false

/-- Feeds received bytes to the decoder alone, one decoder step each (R61, R137): the outputs in order and
the state after; `none` if a step were ever not a next state. -/
def feed : Bytes → State → Option (List DecOut × State)
  | [], s => some ([], s)
  | b :: rest, s =>
    match exec (decodeRx s.parser.pstate b) s with
    | .next t => (feed rest t).map fun r => (t.decOut :: r.1, r.2)
    | _ => none

/-- The moves R280 forbids another agent while a transaction is in flight: taking bytes from the backlog,
changing the connection, reconfiguring the line. -/
def Move.disturbs : Move → Bool
  | .rxLose _ => true
  | .xpOpen _ => true
  | .reconfigure => true
  | _ => false

/-- The premise of R280 on one step: no agent disturbs a transaction in flight. -/
def quietStep (s : State) : Prop := s.tphase.active = true → ∀ m, s.schedule.head? = some m → m.disturbs = false

end Sys2Proof.Machine
end

