-- ==== Sys2Proof/Certificates/Slice0/Obligations.lean ====
section
/-! DEFINITION. The statements for the provers, from the numbered rules of spec/. -/

namespace Sys2Proof.Claims

open Sys2Proof Sys2Proof.Machine

/-- The next step of `s` makes the move `m`, and `rest` is to come after it. -/
def Ready (s : State) (m : Move) (rest : List Move) : Prop := configOk s = true ∧ s.schedule = m :: rest

/-- INV1 and INV2 of R25. -/
def Inv12 (q : Parser) : Prop :=
  (q.pstate = .idle → q.hdrBuf = [] ∧ q.bodyBuf = [] ∧ q.crcBuf = []) ∧
  (q.pstate = .inHeader → q.bodyBuf = [] ∧ q.crcBuf = [])

/-- The overflow step (R160) written out. -/
def overflowed (which : Buffer) (s : State) : State :=
  { s with parser := { pstate := .idle, hdrBuf := [], bodyBuf := [], crcBuf := [] }, decOut := .none,
           evlog := s.evlog ++ [.overflow which] }

/-- The invalid-character step (R146, R152, R158) written out. -/
def invalidated (st : PState) (b : Byte) (s : State) : State :=
  { s with parser := { pstate := .idle, hdrBuf := [], bodyBuf := [], crcBuf := [] }, decOut := .none,
           evlog := s.evlog ++ [.invalidChar st b] }

/-- The transition table (R138): the next parser state for a byte, with room in every buffer. -/
def tableCell (q : Parser) (b : Byte) : Parser :=
  match q.pstate, cls b with
  | .idle, .soh => { q with pstate := .inHeader, hdrBuf := [] }
  | .idle, _ => q
  | .inHeader, .soh => { q with hdrBuf := [] }
  | .inHeader, .stx => { q with pstate := .inBody, bodyBuf := [] }
  | .inHeader, .etx => { q with pstate := .inCrc, crcBuf := [] }
  | .inHeader, .eot => { pstate := .idle, hdrBuf := [], bodyBuf := [], crcBuf := [] }
  | .inHeader, .print => { q with hdrBuf := q.hdrBuf ++ [b] }
  | .inHeader, .other => { pstate := .idle, hdrBuf := [], bodyBuf := [], crcBuf := [] }
  | .inBody, .soh => { pstate := .inHeader, hdrBuf := [], bodyBuf := [], crcBuf := [] }
  | .inBody, .stx => { q with bodyBuf := [] }
  | .inBody, .etx => { q with pstate := .inCrc, crcBuf := [] }
  | .inBody, .eot => { pstate := .idle, hdrBuf := [], bodyBuf := [], crcBuf := [] }
  | .inBody, .print => { q with bodyBuf := q.bodyBuf ++ [b] }
  | .inBody, .other => { pstate := .idle, hdrBuf := [], bodyBuf := [], crcBuf := [] }
  | .inCrc, .soh => { pstate := .inHeader, hdrBuf := [], bodyBuf := [], crcBuf := [] }
  | .inCrc, .stx => { q with pstate := .inBody, bodyBuf := [] }
  | .inCrc, .etx => { q with crcBuf := [] }
  | .inCrc, .eot => { pstate := .idle, hdrBuf := [], bodyBuf := [], crcBuf := [] }
  | .inCrc, _ =>
    if isHex b then { q with crcBuf := q.crcBuf ++ [b] }
    else { pstate := .idle, hdrBuf := [], bodyBuf := [], crcBuf := [] }

/-- The finish (R205) written out: the owner's result is posted with the stated fields, the lock is free and
the phase idle. -/
def finished (p : Nat) (o : TxOutcome) (d : BitVec 3) (ok : Bool) (h B : Bytes) (v : JsonValue) (c : Int)
    (m : Text) (s : State) : State :=
  { s with
    lockOwner := none, tphase := .idle, freeCount := s.freeCount + 1,
    ports := s.ports.modify p fun q => { q with
      resValid := true,
      res := { outcome := o, diag := d, ok := ok, header := h, body := B, value := v, appCode := c,
               appMsg := m } } }

/-- A request taken and answered at once (R189, R190, R209 to R212) written out; `value`, `app_code` and
`app_msg` are absent and hold any value. -/
def answered (p : Nat) (o : TxOutcome) (d : BitVec 3) (v : JsonValue) (c : Int) (m : Text) (s : State) :
    State :=
  { s with
    freeCount := s.freeCount + 1,
    ports := s.ports.modify p fun q => { q with
      reqValid := false, resValid := true,
      res := { outcome := o, diag := d, ok := false, header := [], body := [], value := v, appCode := c,
               appMsg := m } } }

end Sys2Proof.Claims

open Sys2Proof Sys2Proof.Machine Sys2Proof.Claims

/-- `IDLE.SOH` (R140): completion, result and frame. -/
def Obligations.IdleSohOpensTheHeader : Prop :=
  ∀ s : State, s.parser.pstate = .idle →
    exec .idleSoh s = .next { s with
      parser := { pstate := .inHeader, hdrBuf := [], bodyBuf := s.parser.bodyBuf, crcBuf := s.parser.crcBuf },
      decOut := .none }

/-- `IDLE.SKIP` (R159), all eight rows: nothing is written but the (empty) output of the step. -/
def Obligations.IdleSkipWritesNothing : Prop :=
  ∀ s : State, s.parser.pstate = .idle →
    (exec .idleSkip_00_00 s = .next { s with decOut := .none } ∧
      (∀ x : BitVec 1, exec (.idleSkip_02_03 x) s = .next { s with decOut := .none }) ∧
      (∀ x : BitVec 2, exec (.idleSkip_04_07 x) s = .next { s with decOut := .none }) ∧
      (∀ x : BitVec 3, exec (.idleSkip_08_0F x) s = .next { s with decOut := .none }) ∧
      (∀ x : BitVec 4, exec (.idleSkip_10_1F x) s = .next { s with decOut := .none }) ∧
      (∀ x : BitVec 5, exec (.idleSkip_20_3F x) s = .next { s with decOut := .none }) ∧
      (∀ x : BitVec 6, exec (.idleSkip_40_7F x) s = .next { s with decOut := .none }) ∧
      (∀ x : BitVec 7, exec (.idleSkip_80_FF x) s = .next { s with decOut := .none }))

/-- `HDR.SOH` (R141), `BODY.SOH` (R147), `CRC.SOH` (R153). -/
def Obligations.SohOutsideIdleRestartsTheFrame : Prop :=
  ∀ s : State,
    (s.parser.pstate = .inHeader → exec .hdrSoh s = .next { s with
      parser := { s.parser with hdrBuf := [] }, decOut := .none,
      evlog := s.evlog ++ [.restart .inHeader 0x01] }) ∧
    (s.parser.pstate = .inBody → exec .bodySoh s = .next { s with
      parser := { pstate := .inHeader, hdrBuf := [], bodyBuf := [], crcBuf := [] }, decOut := .none,
      evlog := s.evlog ++ [.restart .inBody 0x01] }) ∧
    (s.parser.pstate = .inCrc → exec .crcSoh s = .next { s with
      parser := { pstate := .inHeader, hdrBuf := [], bodyBuf := [], crcBuf := [] }, decOut := .none,
      evlog := s.evlog ++ [.restart .inCrc 0x01] })

/-- `HDR.STX` (R142), `BODY.STX` (R148), `CRC.STX` (R154). -/
def Obligations.StxOpensOrRestartsTheBody : Prop :=
  ∀ s : State,
    (s.parser.pstate = .inHeader → exec .hdrStx s = .next { s with
      parser := { s.parser with pstate := .inBody, bodyBuf := [] }, decOut := .none }) ∧
    (s.parser.pstate = .inBody → exec .bodyStx s = .next { s with
      parser := { s.parser with bodyBuf := [] }, decOut := .none,
      evlog := s.evlog ++ [.restart .inBody 0x02] }) ∧
    (s.parser.pstate = .inCrc → exec .crcStx s = .next { s with
      parser := { s.parser with pstate := .inBody, bodyBuf := [] }, decOut := .none,
      evlog := s.evlog ++ [.restart .inCrc 0x02] })

/-- `HDR.ETX` (R143), `BODY.ETX` (R149), `CRC.ETX` (R155). -/
def Obligations.EtxOpensOrRestartsTheCrc : Prop :=
  ∀ s : State,
    (s.parser.pstate = .inHeader → exec .hdrEtx s = .next { s with
      parser := { s.parser with pstate := .inCrc, crcBuf := [] }, decOut := .none }) ∧
    (s.parser.pstate = .inBody → exec .bodyEtx s = .next { s with
      parser := { s.parser with pstate := .inCrc, crcBuf := [] }, decOut := .none }) ∧
    (s.parser.pstate = .inCrc → exec .crcEtx s = .next { s with
      parser := { s.parser with crcBuf := [] }, decOut := .none,
      evlog := s.evlog ++ [.restart .inCrc 0x03] })

/-- `HDR.PRINT` (R144), all 9 rows, with the overflow step of R160. -/
def Obligations.HdrPrintAppendsOrOverflows : Prop :=
  ∀ s : State, s.parser.pstate = .inHeader →
    (s.params.hdrCap ≠ some s.parser.hdrBuf.length →
      ((∀ x : BitVec 5, exec (.hdrPrint_20_3F x) s = .next { s with parser := { s.parser with hdrBuf := s.parser.hdrBuf ++ [(0x20#8 ||| x.setWidth 8)] }, decOut := .none }) ∧
      (∀ x : BitVec 6, exec (.hdrPrint_40_7F x) s = .next { s with parser := { s.parser with hdrBuf := s.parser.hdrBuf ++ [(0x40#8 ||| x.setWidth 8)] }, decOut := .none }) ∧
      (∀ x : BitVec 6, exec (.hdrPrint_80_BF x) s = .next { s with parser := { s.parser with hdrBuf := s.parser.hdrBuf ++ [(0x80#8 ||| x.setWidth 8)] }, decOut := .none }) ∧
      (∀ x : BitVec 5, exec (.hdrPrint_C0_DF x) s = .next { s with parser := { s.parser with hdrBuf := s.parser.hdrBuf ++ [(0xC0#8 ||| x.setWidth 8)] }, decOut := .none }) ∧
      (∀ x : BitVec 4, exec (.hdrPrint_E0_EF x) s = .next { s with parser := { s.parser with hdrBuf := s.parser.hdrBuf ++ [(0xE0#8 ||| x.setWidth 8)] }, decOut := .none }) ∧
      (∀ x : BitVec 3, exec (.hdrPrint_F0_F7 x) s = .next { s with parser := { s.parser with hdrBuf := s.parser.hdrBuf ++ [(0xF0#8 ||| x.setWidth 8)] }, decOut := .none }) ∧
      (∀ x : BitVec 2, exec (.hdrPrint_F8_FB x) s = .next { s with parser := { s.parser with hdrBuf := s.parser.hdrBuf ++ [(0xF8#8 ||| x.setWidth 8)] }, decOut := .none }) ∧
      (∀ x : BitVec 1, exec (.hdrPrint_FC_FD x) s = .next { s with parser := { s.parser with hdrBuf := s.parser.hdrBuf ++ [(0xFC#8 ||| x.setWidth 8)] }, decOut := .none }) ∧
      exec .hdrPrint_FE_FE s = .next { s with parser := { s.parser with hdrBuf := s.parser.hdrBuf ++ [0xFE#8] }, decOut := .none })) ∧
    (s.params.hdrCap = some s.parser.hdrBuf.length →
      ((∀ x : BitVec 5, exec (.hdrPrint_20_3F x) s = .next (overflowed .hdr s)) ∧
      (∀ x : BitVec 6, exec (.hdrPrint_40_7F x) s = .next (overflowed .hdr s)) ∧
      (∀ x : BitVec 6, exec (.hdrPrint_80_BF x) s = .next (overflowed .hdr s)) ∧
      (∀ x : BitVec 5, exec (.hdrPrint_C0_DF x) s = .next (overflowed .hdr s)) ∧
      (∀ x : BitVec 4, exec (.hdrPrint_E0_EF x) s = .next (overflowed .hdr s)) ∧
      (∀ x : BitVec 3, exec (.hdrPrint_F0_F7 x) s = .next (overflowed .hdr s)) ∧
      (∀ x : BitVec 2, exec (.hdrPrint_F8_FB x) s = .next (overflowed .hdr s)) ∧
      (∀ x : BitVec 1, exec (.hdrPrint_FC_FD x) s = .next (overflowed .hdr s)) ∧
      exec .hdrPrint_FE_FE s = .next (overflowed .hdr s)))

/-- `BODY.PRINT` (R151), all 9 rows, with the overflow step of R160. -/
def Obligations.BodyPrintAppendsOrOverflows : Prop :=
  ∀ s : State, s.parser.pstate = .inBody →
    (s.params.bodyCap ≠ some s.parser.bodyBuf.length →
      ((∀ x : BitVec 5, exec (.bodyPrint_20_3F x) s = .next { s with parser := { s.parser with bodyBuf := s.parser.bodyBuf ++ [(0x20#8 ||| x.setWidth 8)] }, decOut := .none }) ∧
      (∀ x : BitVec 6, exec (.bodyPrint_40_7F x) s = .next { s with parser := { s.parser with bodyBuf := s.parser.bodyBuf ++ [(0x40#8 ||| x.setWidth 8)] }, decOut := .none }) ∧
      (∀ x : BitVec 6, exec (.bodyPrint_80_BF x) s = .next { s with parser := { s.parser with bodyBuf := s.parser.bodyBuf ++ [(0x80#8 ||| x.setWidth 8)] }, decOut := .none }) ∧
      (∀ x : BitVec 5, exec (.bodyPrint_C0_DF x) s = .next { s with parser := { s.parser with bodyBuf := s.parser.bodyBuf ++ [(0xC0#8 ||| x.setWidth 8)] }, decOut := .none }) ∧
      (∀ x : BitVec 4, exec (.bodyPrint_E0_EF x) s = .next { s with parser := { s.parser with bodyBuf := s.parser.bodyBuf ++ [(0xE0#8 ||| x.setWidth 8)] }, decOut := .none }) ∧
      (∀ x : BitVec 3, exec (.bodyPrint_F0_F7 x) s = .next { s with parser := { s.parser with bodyBuf := s.parser.bodyBuf ++ [(0xF0#8 ||| x.setWidth 8)] }, decOut := .none }) ∧
      (∀ x : BitVec 2, exec (.bodyPrint_F8_FB x) s = .next { s with parser := { s.parser with bodyBuf := s.parser.bodyBuf ++ [(0xF8#8 ||| x.setWidth 8)] }, decOut := .none }) ∧
      (∀ x : BitVec 1, exec (.bodyPrint_FC_FD x) s = .next { s with parser := { s.parser with bodyBuf := s.parser.bodyBuf ++ [(0xFC#8 ||| x.setWidth 8)] }, decOut := .none }) ∧
      exec .bodyPrint_FE_FE s = .next { s with parser := { s.parser with bodyBuf := s.parser.bodyBuf ++ [0xFE#8] }, decOut := .none })) ∧
    (s.params.bodyCap = some s.parser.bodyBuf.length →
      ((∀ x : BitVec 5, exec (.bodyPrint_20_3F x) s = .next (overflowed .body s)) ∧
      (∀ x : BitVec 6, exec (.bodyPrint_40_7F x) s = .next (overflowed .body s)) ∧
      (∀ x : BitVec 6, exec (.bodyPrint_80_BF x) s = .next (overflowed .body s)) ∧
      (∀ x : BitVec 5, exec (.bodyPrint_C0_DF x) s = .next (overflowed .body s)) ∧
      (∀ x : BitVec 4, exec (.bodyPrint_E0_EF x) s = .next (overflowed .body s)) ∧
      (∀ x : BitVec 3, exec (.bodyPrint_F0_F7 x) s = .next (overflowed .body s)) ∧
      (∀ x : BitVec 2, exec (.bodyPrint_F8_FB x) s = .next (overflowed .body s)) ∧
      (∀ x : BitVec 1, exec (.bodyPrint_FC_FD x) s = .next (overflowed .body s)) ∧
      exec .bodyPrint_FE_FE s = .next (overflowed .body s)))

/-- `CRC.HEX` (R157), all 10 rows, with the overflow step of R160. -/
def Obligations.CrcHexAppendsOrOverflows : Prop :=
  ∀ s : State, s.parser.pstate = .inCrc →
    (s.params.crcCap ≠ some s.parser.crcBuf.length →
      ((∀ x : BitVec 3, exec (.crcHex_30_37 x) s = .next { s with parser := { s.parser with crcBuf := s.parser.crcBuf ++ [(0x30#8 ||| x.setWidth 8)] }, decOut := .none }) ∧
      (∀ x : BitVec 1, exec (.crcHex_38_39 x) s = .next { s with parser := { s.parser with crcBuf := s.parser.crcBuf ++ [(0x38#8 ||| x.setWidth 8)] }, decOut := .none }) ∧
      exec .crcHex_41_41 s = .next { s with parser := { s.parser with crcBuf := s.parser.crcBuf ++ [0x41#8] }, decOut := .none } ∧
      (∀ x : BitVec 1, exec (.crcHex_42_43 x) s = .next { s with parser := { s.parser with crcBuf := s.parser.crcBuf ++ [(0x42#8 ||| x.setWidth 8)] }, decOut := .none }) ∧
      (∀ x : BitVec 1, exec (.crcHex_44_45 x) s = .next { s with parser := { s.parser with crcBuf := s.parser.crcBuf ++ [(0x44#8 ||| x.setWidth 8)] }, decOut := .none }) ∧
      exec .crcHex_46_46 s = .next { s with parser := { s.parser with crcBuf := s.parser.crcBuf ++ [0x46#8] }, decOut := .none } ∧
      exec .crcHex_61_61 s = .next { s with parser := { s.parser with crcBuf := s.parser.crcBuf ++ [0x61#8] }, decOut := .none } ∧
      (∀ x : BitVec 1, exec (.crcHex_62_63 x) s = .next { s with parser := { s.parser with crcBuf := s.parser.crcBuf ++ [(0x62#8 ||| x.setWidth 8)] }, decOut := .none }) ∧
      (∀ x : BitVec 1, exec (.crcHex_64_65 x) s = .next { s with parser := { s.parser with crcBuf := s.parser.crcBuf ++ [(0x64#8 ||| x.setWidth 8)] }, decOut := .none }) ∧
      exec .crcHex_66_66 s = .next { s with parser := { s.parser with crcBuf := s.parser.crcBuf ++ [0x66#8] }, decOut := .none })) ∧
    (s.params.crcCap = some s.parser.crcBuf.length →
      ((∀ x : BitVec 3, exec (.crcHex_30_37 x) s = .next (overflowed .crc s)) ∧
      (∀ x : BitVec 1, exec (.crcHex_38_39 x) s = .next (overflowed .crc s)) ∧
      exec .crcHex_41_41 s = .next (overflowed .crc s) ∧
      (∀ x : BitVec 1, exec (.crcHex_42_43 x) s = .next (overflowed .crc s)) ∧
      (∀ x : BitVec 1, exec (.crcHex_44_45 x) s = .next (overflowed .crc s)) ∧
      exec .crcHex_46_46 s = .next (overflowed .crc s) ∧
      exec .crcHex_61_61 s = .next (overflowed .crc s) ∧
      (∀ x : BitVec 1, exec (.crcHex_62_63 x) s = .next (overflowed .crc s)) ∧
      (∀ x : BitVec 1, exec (.crcHex_64_65 x) s = .next (overflowed .crc s)) ∧
      exec .crcHex_66_66 s = .next (overflowed .crc s)))

/-- `HDR.EOT` (R145), `BODY.EOT` (R150). -/
def Obligations.EotBeforeTheCrcAbandonsTheFrame : Prop :=
  ∀ s : State,
    (s.parser.pstate = .inHeader → exec .hdrEot s = .next { s with
      parser := { pstate := .idle, hdrBuf := [], bodyBuf := [], crcBuf := [] }, decOut := .none, evlog := s.evlog ++ [.abort .inHeader] }) ∧
    (s.parser.pstate = .inBody → exec .bodyEot s = .next { s with
      parser := { pstate := .idle, hdrBuf := [], bodyBuf := [], crcBuf := [] }, decOut := .none, evlog := s.evlog ++ [.abort .inBody] })

/-- `HDR.OTHER` (R146), `BODY.OTHER` (R152), `CRC.NONHEX` (R158), all rows. -/
def Obligations.IllegalBytesAbandonTheFrame : Prop :=
  ∀ s : State,
    (s.parser.pstate = .inHeader →
      exec .hdrOther_00_00 s = .next (invalidated .inHeader 0x00#8 s) ∧
      exec .hdrOther_05_05 s = .next (invalidated .inHeader 0x05#8 s) ∧
      (∀ x : BitVec 1, exec (.hdrOther_06_07 x) s = .next (invalidated .inHeader (0x06#8 ||| x.setWidth 8) s)) ∧
      (∀ x : BitVec 3, exec (.hdrOther_08_0F x) s = .next (invalidated .inHeader (0x08#8 ||| x.setWidth 8) s)) ∧
      (∀ x : BitVec 4, exec (.hdrOther_10_1F x) s = .next (invalidated .inHeader (0x10#8 ||| x.setWidth 8) s)) ∧
      exec .hdrOther_FF_FF s = .next (invalidated .inHeader 0xFF#8 s)) ∧
    (s.parser.pstate = .inBody →
      exec .bodyOther_00_00 s = .next (invalidated .inBody 0x00#8 s) ∧
      exec .bodyOther_05_05 s = .next (invalidated .inBody 0x05#8 s) ∧
      (∀ x : BitVec 1, exec (.bodyOther_06_07 x) s = .next (invalidated .inBody (0x06#8 ||| x.setWidth 8) s)) ∧
      (∀ x : BitVec 3, exec (.bodyOther_08_0F x) s = .next (invalidated .inBody (0x08#8 ||| x.setWidth 8) s)) ∧
      (∀ x : BitVec 4, exec (.bodyOther_10_1F x) s = .next (invalidated .inBody (0x10#8 ||| x.setWidth 8) s)) ∧
      exec .bodyOther_FF_FF s = .next (invalidated .inBody 0xFF#8 s)) ∧
    (s.parser.pstate = .inCrc →
      exec .crcNonhex_00_00 s = .next (invalidated .inCrc 0x00#8 s) ∧
      exec .crcNonhex_05_05 s = .next (invalidated .inCrc 0x05#8 s) ∧
      (∀ x : BitVec 1, exec (.crcNonhex_06_07 x) s = .next (invalidated .inCrc (0x06#8 ||| x.setWidth 8) s)) ∧
      (∀ x : BitVec 3, exec (.crcNonhex_08_0F x) s = .next (invalidated .inCrc (0x08#8 ||| x.setWidth 8) s)) ∧
      (∀ x : BitVec 4, exec (.crcNonhex_10_1F x) s = .next (invalidated .inCrc (0x10#8 ||| x.setWidth 8) s)) ∧
      (∀ x : BitVec 4, exec (.crcNonhex_20_2F x) s = .next (invalidated .inCrc (0x20#8 ||| x.setWidth 8) s)) ∧
      (∀ x : BitVec 1, exec (.crcNonhex_3A_3B x) s = .next (invalidated .inCrc (0x3A#8 ||| x.setWidth 8) s)) ∧
      (∀ x : BitVec 2, exec (.crcNonhex_3C_3F x) s = .next (invalidated .inCrc (0x3C#8 ||| x.setWidth 8) s)) ∧
      exec .crcNonhex_40_40 s = .next (invalidated .inCrc 0x40#8 s) ∧
      exec .crcNonhex_47_47 s = .next (invalidated .inCrc 0x47#8 s) ∧
      (∀ x : BitVec 3, exec (.crcNonhex_48_4F x) s = .next (invalidated .inCrc (0x48#8 ||| x.setWidth 8) s)) ∧
      (∀ x : BitVec 4, exec (.crcNonhex_50_5F x) s = .next (invalidated .inCrc (0x50#8 ||| x.setWidth 8) s)) ∧
      exec .crcNonhex_60_60 s = .next (invalidated .inCrc 0x60#8 s) ∧
      exec .crcNonhex_67_67 s = .next (invalidated .inCrc 0x67#8 s) ∧
      (∀ x : BitVec 3, exec (.crcNonhex_68_6F x) s = .next (invalidated .inCrc (0x68#8 ||| x.setWidth 8) s)) ∧
      (∀ x : BitVec 4, exec (.crcNonhex_70_7F x) s = .next (invalidated .inCrc (0x70#8 ||| x.setWidth 8) s)) ∧
      (∀ x : BitVec 7, exec (.crcNonhex_80_FF x) s = .next (invalidated .inCrc (0x80#8 ||| x.setWidth 8) s)))

/-- `CRC.EOT` (R156), with `CrcMatch` written out (R118). -/
def Obligations.CrcEotCompletesTheFrame : Prop :=
  ∀ s : State, s.parser.pstate = .inCrc →
    (hexVal s.parser.crcBuf = some (crc32 s.parser.bodyBuf).toNat →
      exec .crcEot s = .next { s with
        parser := { pstate := .idle, hdrBuf := [], bodyBuf := [], crcBuf := [] },
        decOut := .frame s.parser.hdrBuf s.parser.bodyBuf,
        evlog := s.evlog ++ [.frameOk s.parser.hdrBuf s.parser.bodyBuf] }) ∧
    (hexVal s.parser.crcBuf ≠ some (crc32 s.parser.bodyBuf).toNat →
      exec .crcEot s = .next { s with
        parser := { pstate := .idle, hdrBuf := [], bodyBuf := [], crcBuf := [] },
        decOut := .crcFail,
        evlog := s.evlog ++ [.crcMismatch (crc32 s.parser.bodyBuf) s.parser.crcBuf] })

/-- Where a meaning stops (log entry 9, the model's choice): the spec gives each of these instructions no effect there. -/
def Obligations.DisabledInstructionsStopByName : Prop :=
  (∀ (i : Instr) (st : PState) (b : Byte) (s : State), i.rxWord = some (st, b) →
      s.parser.pstate ≠ st → exec i s = .refused .otherParserState) ∧
  (∀ (p : Nat) (body : Bytes) (n : Nat) (s : State), s.ports.length ≤ p →
      exec (.cmd p body n) s = .refused .noSuchPort ∧ exec (.cmdNr p body n) s = .refused .noSuchPort ∧
      exec (.excl p) s = .refused .noSuchPort ∧ exec (.release p) s = .refused .noSuchPort) ∧
  (∀ s : State, s.tphase ≠ .flush → exec .headerCmd s = .refused .otherPhase) ∧
  (∀ (body : Bytes) (s : State), s.tphase ≠ .recv →
      exec (.headerResp body) s = .refused .otherPhase ∧ exec (.headerErr body) s = .refused .otherPhase) ∧
  (∀ (n : Nat) (s : State), s.decActive = true → exec (.decode n) s = .refused .decodeRunning)

/-- `DecStep` is total and keeps to its own state (R135, R137): 4 states by 256 bytes. -/
def Obligations.EveryByteHasAStepThatTouchesOnlyTheDecoder : Prop :=
  ∀ (s : State) (b : Byte), ∃ t : State, exec (decodeRx s.parser.pstate b) s = .next t ∧
    t = { s with parser := t.parser, decOut := t.decOut, evlog := t.evlog } ∧
    ∃ es : List Event, t.evlog = s.evlog ++ es ∧ es.length ≤ 1

/-- The table of R138, written once more as `tableCell`, against the 78 rows; the outputs are those of R161. -/
def Obligations.DecoderFollowsTheTransitionTable : Prop :=
  ∀ (s : State) (b : Byte), bufferFull s.params.hdrCap s.parser.hdrBuf = false →
    bufferFull s.params.bodyCap s.parser.bodyBuf = false →
    bufferFull s.params.crcCap s.parser.crcBuf = false →
    ∃ t : State, exec (decodeRx s.parser.pstate b) s = .next t ∧
      t.parser = tableCell s.parser b ∧
      (t.decOut ≠ .none ↔ s.parser.pstate = .inCrc ∧ b = 0x04)

/-- The invariants of R25; INV3 claims nothing. -/
def Obligations.ParserInvariantsHold : Prop :=
  (∀ (c : Params) (n : Nat), Inv12 (State.resetWith c n).parser) ∧
  (∀ (s t : State) (b : Byte), Inv12 s.parser → exec (decodeRx s.parser.pstate b) s = .next t →
    Inv12 t.parser) ∧
  (∀ (s t : State) (b : Byte), exec (decodeRx s.parser.pstate b) s = .next t →
    t.parser.pstate = .inCrc → (s.parser.pstate ≠ .inCrc ∨ b = 0x03) → t.parser.crcBuf = [])

/-- The round-trip law (R131). -/
def Obligations.EncodedFramesDecodeFromAnyState : Prop :=
  ∀ (s : State) (h B : Bytes), clean h = true → clean B = true →
    fits s.params.hdrCap h → fits s.params.bodyCap B → (∀ n, s.params.crcCap = some n → 8 ≤ n) →
    ∃ t : State,
      feed (encodeFrame h B) s = some (List.replicate (h.length + B.length + 11) .none ++ [.frame h B], t) ∧
      t = { s with
        parser := { pstate := .idle, hdrBuf := [], bodyBuf := [], crcBuf := [] }, decOut := .frame h B,
        evlog := t.evlog } ∧
      ∃ es : List Event, t.evlog = s.evlog ++ es ++ [.frameOk h B] ∧ es.length ≤ 1

/-- The decoder cannot be stuck (R162). -/
def Obligations.NoHistoryPreventsALaterFrame : Prop :=
  (∀ (s : State) (g h B : Bytes), clean h = true → clean B = true →
    fits s.params.hdrCap h → fits s.params.bodyCap B → (∀ n, s.params.crcCap = some n → 8 ≤ n) →
    ∃ (outs : List DecOut) (t : State), feed (g ++ encodeFrame h B) s = some (outs ++ [.frame h B], t) ∧
      outs.length = g.length + h.length + B.length + 11 ∧
      t.parser = { pstate := .idle, hdrBuf := [], bodyBuf := [], crcBuf := [] }) ∧
  (∀ s : State, Inv12 s.parser → ∃ t : State, exec (decodeRx s.parser.pstate 0x01) s = .next t ∧
      t.parser = { pstate := .inHeader, hdrBuf := [], bodyBuf := [], crcBuf := [] })

/-- `CRC32` (R110) as R111 to R113 define it. -/
def Obligations.Crc32InstructionGivesTheChecksum : Prop :=
  (∀ (s : State) (B : Bytes),
    exec (.crc32 B) s = .next { s with crcOut := (B.foldl crcUpdate 0xFFFFFFFF#32) ^^^ 0xFFFFFFFF#32 }) ∧
  (∀ (r : Word32) (b : Byte), crcUpdate r b =
    (fun r : Word32 => if r.getLsbD 0 then (r >>> 1) ^^^ 0xEDB88320#32 else r >>> 1)^[8]
      (r ^^^ b.setWidth 32)) ∧
  crc32 [] = 0x00000000#32

/-- The table form (R114). -/
def Obligations.CrcUpdateHasATableForm : Prop :=
  (∀ (r : Word32) (b : Byte), crcUpdate r b =
    (r >>> 8) ^^^ crcShifts 8 (((r ^^^ b.setWidth 32).setWidth 8 : Byte).setWidth 32)) ∧
  crcTable 0 = 0x00000000 ∧ crcTable 1 = 0x77073096 ∧ crcTable 2 = 0xEE0E612C ∧ crcTable 3 = 0x990951BA ∧
  crcTable 4 = 0x076DC419 ∧ crcTable 8 = 0x0EDB8832 ∧ crcTable 16 = 0x1DB71064 ∧
  crcTable 128 = 0xEDB88320 ∧ crcTable 255 = 0x2D02EF8D

/-- The error-detection law R115 (b), for a whole byte. -/
def Obligations.OneDamagedByteChangesTheCrc : Prop :=
  ∀ (u v : Bytes) (a b : Byte), a ≠ b → crc32 (u ++ a :: v) ≠ crc32 (u ++ b :: v)

/-- `HexVal(Hex8(c)) = Some c` (R116, R117, R163). -/
def Obligations.HexFieldReadsBack : Prop :=
  ∀ c : Word32, (hex8 c).length = 8 ∧ hexVal (hex8 c) = some c.toNat ∧
    ∀ b ∈ hex8 c, (0x30 ≤ b.toNat ∧ b.toNat ≤ 0x39) ∨ (0x61 ≤ b.toNat ∧ b.toNat ≤ 0x66)

/-- `CrcMatch` and its consequences (R118). -/
def Obligations.CrcFieldIsComparedByValue : Prop :=
  ∀ B : Bytes,
    (∀ f : Bytes, crcMatch B f = true ↔ hexVal f = some (crc32 B).toNat) ∧
    crcMatch B [] = false ∧
    (∀ (f : Bytes) (k : Nat), f ≠ [] → crcMatch B (List.replicate k 0x30 ++ f) = crcMatch B f) ∧
    (∀ f : Bytes, f.all isHex = true → 8 < f.length → crcMatch B f = true →
      ∀ b ∈ f.take (f.length - 8), b = 0x30) ∧
    (∀ (f : Bytes) (v : Nat), hexVal f = some v → 2 ^ 32 ≤ v → crcMatch B f = false)

/-- The shift-register form (R119). -/
def Obligations.ShiftRegisterVerifierIsEquivalent : Prop :=
  ∀ B f : Bytes, f.all isHex = true → crcMatchByShiftReg B f = crcMatch B f

/-- The streaming encoder (R130). -/
def Obligations.StreamingEncoderSendsTheSameFrame : Prop :=
  ∀ h B : Bytes, encodeStream h B = encodeFrame h B

/-- `ENCODE` (R125) and its length (R127). -/
def Obligations.EncodeInstructionGivesTheFrame : Prop :=
  ∀ (s : State) (h B : Bytes),
    exec (.encode h B) s = .next { s with
      encOut := [0x01] ++ h ++ [0x02] ++ B ++ [0x03] ++ hex8 (crc32 B) ++ [0x04] } ∧
    (encodeFrame h B).length = h.length + B.length + 12

/-- `DecodeStart(T)` (R171). -/
def Obligations.DecodeStartLoadsTheTimer : Prop :=
  ∀ (s : State) (n : Nat), s.decActive = false →
    exec (.decode n) s = .next { s with
      parser := { pstate := .idle, hdrBuf := [], bodyBuf := [], crcBuf := [] }, decTimer := n, decActive := true }

/-- `Tick` (R172), as a step that makes the move `tick`. -/
def Obligations.TickCountsTheTimerDown : Prop :=
  ∀ (s : State) (rest : List Move), Ready s .tick rest →
    (s.decActive = true → 0 < s.decTimer →
      step s = .next { s with schedule := rest, decTimer := s.decTimer - 1 }) ∧
    (s.decActive = false ∨ s.decTimer = 0 → step s = .next { s with schedule := rest })

/-- Every `DECODE` ends within its ticks (R180), here with no byte taken. -/
def Obligations.DecodeEndsWithinItsTicks : Prop :=
  ∀ (s : State) (p : Nat) (rest : List Move), configOk s = true → s.tphase = .recv → s.decActive = true →
    s.xpErr = none → s.lockOwner = some p → p < s.ports.length →
    s.schedule = List.replicate s.decTimer .tick ++ .own :: rest →
    ∃ t : State, Host.Core.run Sys2Proof.core (s.decTimer + 1) s = .next t ∧
      t.tphase = .idle ∧ t.lockOwner = none ∧ t.decActive = false ∧ t.decTimer = 0 ∧
      t.parser = { pstate := .idle, hdrBuf := [], bodyBuf := [], crcBuf := [] } ∧
      t.rxFifo = s.rxFifo ∧ t.schedule = rest ∧
      ∃ q : Port, t.ports[p]? = some q ∧ q.resValid = true ∧ q.res.outcome = .timeout ∧ q.res.diag = 0 ∧
        q.res.ok = false ∧ q.res.header = [] ∧ q.res.body = []

/-- The zero timeout (R179). -/
def Obligations.ZeroTimeoutTakesNoByte : Prop :=
  ∀ (s : State) (p : Nat) (rest : List Move), configOk s = true → s.tphase = .drain → s.txDrained = true →
    s.xpErr = none → s.decActive = false → s.curTimeout = 0 → s.lockOwner = some p → p < s.ports.length →
    s.schedule = .own :: .own :: rest →
    ∃ t : State, Host.Core.run Sys2Proof.core 2 s = .next t ∧ t.rxFifo = s.rxFifo ∧
      t.decResult = some .timeout ∧ t.tphase = .idle ∧ t.lockOwner = none ∧
      ∃ q : Port, t.ports[p]? = some q ∧ q.resValid = true ∧ q.res.outcome = .timeout

/-- The expiry (R173) with its outcome (R197) and the finish (R205). -/
def Obligations.ExpiryEndsTheTransactionInTimeout : Prop :=
  ∀ (s : State) (p : Nat) (rest : List Move), Ready s .own rest → s.tphase = .recv → s.decActive = true →
    s.decTimer = 0 → s.xpErr = none → s.lockOwner = some p →
    ∃ (v : JsonValue) (c : Int) (m : Text), step s = .next (finished p .timeout 0 false [] [] v c m { s with
      schedule := rest, parser := { pstate := .idle, hdrBuf := [], bodyBuf := [], crcBuf := [] },
      decActive := false, decResult := some .timeout, evlog := s.evlog ++ [.decodeTimeout] })

/-- The byte step (R174) and what stands around the decoded instruction (R175, R176, R195, R198, R203). -/
def Obligations.StepRunsTheReceivedByte : Prop :=
  ∀ (s t : State) (p : Nat) (b : Byte) (r : Bytes) (rest : List Move), Ready s .own rest →
    s.tphase = .recv → s.decActive = true → 0 < s.decTimer → s.xpErr = none → s.lockOwner = some p →
    s.rxFifo = b :: r →
    exec (decodeRx s.parser.pstate b) { s with schedule := rest, rxFifo := r } = .next t →
    (t.decOut = .none → step s = .next t) ∧
    (t.decOut = .crcFail → ∃ (v : JsonValue) (c : Int) (m : Text), step s = .next
      (finished p .noValidFrame 0 false [] [] v c m
        { t with decActive := false, decResult := some .crcFail })) ∧
    (∀ B : Bytes, t.decOut = .frame [0x52, 0x45, 0x53, 0x50] B →
      step s = exec (.headerResp B)
        { t with decActive := false, decResult := some (.frame [0x52, 0x45, 0x53, 0x50] B) }) ∧
    (∀ B : Bytes, t.decOut = .frame [0x45, 0x52, 0x52] B →
      step s = exec (.headerErr B)
        { t with decActive := false, decResult := some (.frame [0x45, 0x52, 0x52] B) }) ∧
    (∀ h B : Bytes, t.decOut = .frame h B → h ≠ [0x52, 0x45, 0x53, 0x50] → h ≠ [0x45, 0x52, 0x52] →
      ∃ (v : JsonValue) (c : Int) (m : Text), step s = .next
        (finished p .protocolError 4 false h B v c m
          { t with decActive := false, decResult := some (.frame h B) }))

/-- A step runs the decoded instruction, for every word but a received byte. -/
def Obligations.StepRunsTheSequencersInstruction : Prop :=
  ∀ (s : State) (rest : List Move),
    (∀ (p : Nat) (q : Port), Ready s (.take p) rest → s.tphase ≠ .code6 → s.tphase ≠ .code7 →
      s.ports[p]? = some q → q.reqValid = true →
      step s = exec (decodeReq p q.req.op q.req.body q.req.timeout) { s with schedule := rest }) ∧
    (Ready s .own rest → s.tphase = .flush → s.xpErr = none →
      step s = exec .headerCmd { s with schedule := rest }) ∧
    (∀ t : State, Ready s .own rest → s.tphase = .drain → s.xpErr = none → s.txDrained = true →
      exec (.decode s.curTimeout) { s with schedule := rest } = .next t →
      step s = .next { t with tphase := .recv })

/-- The `TransportError` end (R177) and its outcome (R199). -/
def Obligations.TransportFailureEndsTheDecode : Prop :=
  ∀ (s : State) (p : Nat) (r : XpErr) (rest : List Move), Ready s .own rest → s.tphase = .recv →
    s.decActive = true → s.xpErr = some r → s.lockOwner = some p →
    ∃ (v : JsonValue) (c : Int) (m : Text), step s = .next
      (finished p .transportError (if r = .writeFail then 1 else 2) false [] [] v c m { s with
        schedule := rest, parser := { pstate := .idle, hdrBuf := [], bodyBuf := [], crcBuf := [] },
        decActive := false, decResult := some (.transportError r) })

/-- A Transport failure outside the receive phase (R213). -/
def Obligations.TransportFailureEndsTheSending : Prop :=
  ∀ (s : State) (p : Nat) (r : XpErr) (rest : List Move), Ready s .own rest →
    (s.tphase = .flush ∨ s.tphase = .send ∨ s.tphase = .drain) → s.xpErr = some r → s.lockOwner = some p →
    ∃ (v : JsonValue) (c : Int) (m : Text), step s = .next
      (finished p .transportError (if r = .writeFail then 1 else 2) false [] [] v c m { s with
        schedule := rest, parser := { pstate := .idle, hdrBuf := [], bodyBuf := [], crcBuf := [] } })

/-- `HEADER.RESP` (R201) with the `ok` bit of R204 and the finish of R205; the fields a class leaves absent hold any value. -/
def Obligations.RespFrameIsClassifiedAndFinished : Prop :=
  ∀ (s : State) (p : Nat) (B : Bytes), s.tphase = .recv → s.lockOwner = some p →
    ∃ (v : JsonValue) (c : Int) (m : Text), exec (.headerResp B) s = .next
      (match classifyResp B with
        | .success w => finished p .success 0 (decide (s.curOp = .cmdNr) && isZero w)
            [0x52, 0x45, 0x53, 0x50] B w c m s
        | .applicationError code msg => finished p .applicationError 0 false
            [0x52, 0x45, 0x53, 0x50] B v code msg s
        | .protocolError g => finished p .protocolError g false [0x52, 0x45, 0x53, 0x50] B v c m s)

/-- `HEADER.ERR` (R202). -/
def Obligations.ErrFrameIsAProtocolError : Prop :=
  ∀ (s : State) (p : Nat) (B : Bytes), s.tphase = .recv → s.lockOwner = some p →
    ∃ (v : JsonValue) (c : Int) (m : Text), exec (.headerErr B) s = .next
      (finished p .protocolError 3 false [0x45, 0x52, 0x52] B v c m s)

/-- `Acquire` (R187) for `CMD` and `CMD_NR`. -/
def Obligations.CmdAcquiresTheLock : Prop :=
  ∀ (s : State) (p : Nat) (B : Bytes) (n : Nat), p < s.ports.length → s.lockOwner = none →
    (∀ k, s.params.txCap = some k → B.length ≤ k) → s.xpOpen = true →
    exec (.cmd p B n) s = .next { s with
      lockOwner := some p, curOp := .cmd, curBody := B, curTimeout := n, tphase := .flush,
      ports := s.ports.modify p fun q => { q with reqValid := false } } ∧
    exec (.cmdNr p B n) s = .next { s with
      lockOwner := some p, curOp := .cmdNr, curBody := B, curTimeout := n, tphase := .flush,
      ports := s.ports.modify p fun q => { q with reqValid := false } }

/-- The refusal for length (R189) and the closed connection (R190). -/
def Obligations.CmdIsTurnedAwayForLengthOrClosedLine : Prop :=
  ∀ (s : State) (p : Nat) (B : Bytes) (n : Nat), p < s.ports.length → s.lockOwner = none →
    (∀ k, s.params.txCap = some k → k < B.length →
      (∃ (v : JsonValue) (c : Int) (m : Text), exec (.cmd p B n) s = .next (answered p .refused 1 v c m s)) ∧
      (∃ (v : JsonValue) (c : Int) (m : Text), exec (.cmdNr p B n) s = .next (answered p .refused 1 v c m s))) ∧
    ((∀ k, s.params.txCap = some k → B.length ≤ k) → s.xpOpen = false →
      (∃ (v : JsonValue) (c : Int) (m : Text),
        exec (.cmd p B n) s = .next (answered p .transportError 0 v c m s)) ∧
      (∃ (v : JsonValue) (c : Int) (m : Text),
        exec (.cmdNr p B n) s = .next (answered p .transportError 0 v c m s)))

/-- A waiting request (R187, R188, R209: enabled only when the lock is free). -/
def Obligations.RequestsWaitWhileTheLockIsHeld : Prop :=
  ∀ (s : State) (p o : Nat) (B : Bytes) (n : Nat), p < s.ports.length → s.lockOwner = some o →
    (o ≠ p ∨ s.tphase ≠ .excl) →
    exec (.cmd p B n) s = .next s ∧ exec (.cmdNr p B n) s = .next s ∧ exec (.excl p) s = .next s

/-- The grant of an exclusive hold (R209). -/
def Obligations.ExclIsGrantedTheFreeLock : Prop :=
  ∀ (s : State) (p : Nat), p < s.ports.length → s.lockOwner = none →
    ∃ (v : JsonValue) (c : Int) (m : Text), exec (.excl p) s = .next
      { answered p .granted 0 v c m s with lockOwner := some p, curOp := .excl, tphase := .excl }

/-- A request other than `RELEASE` from the holder (R210). -/
def Obligations.HolderMayOnlyRelease : Prop :=
  ∀ (s : State) (p : Nat) (B : Bytes) (n : Nat), p < s.ports.length → s.lockOwner = some p →
    s.tphase = .excl →
    (∃ (v : JsonValue) (c : Int) (m : Text), exec (.cmd p B n) s = .next (answered p .refused 2 v c m s)) ∧
    (∃ (v : JsonValue) (c : Int) (m : Text), exec (.cmdNr p B n) s = .next (answered p .refused 2 v c m s)) ∧
    (∃ (v : JsonValue) (c : Int) (m : Text), exec (.excl p) s = .next (answered p .refused 2 v c m s))

/-- `RELEASE` (R211, R212). -/
def Obligations.ReleaseGivesUpAHoldOrIsRefused : Prop :=
  ∀ (s : State) (p : Nat), p < s.ports.length →
    (s.lockOwner = some p → s.tphase = .excl →
      ∃ (v : JsonValue) (c : Int) (m : Text), exec (.release p) s = .next
        { answered p .granted 0 v c m s with lockOwner := none, tphase := .idle }) ∧
    ((s.lockOwner ≠ some p ∨ s.tphase ≠ .excl) →
      ∃ (v : JsonValue) (c : Int) (m : Text), exec (.release p) s = .next (answered p .refused 0 v c m s))

/-- `HostPost` (R185); that a post not accepted leaves the state as it is, is the model's choice (log entry 7). -/
def Obligations.PostIsAcceptedOnlyByAFreePort : Prop :=
  ∀ (s : State) (p : Nat) (q : Port) (op : BitVec 2) (B : Bytes) (n : Nat) (rest : List Move),
    Ready s (.post p op B n) rest → s.ports[p]? = some q →
    (q.reqValid = false → q.resValid = false → (s.lockOwner ≠ some p ∨ s.tphase = .excl) →
      n < 2 ^ s.params.tw →
      step s = .next { s with
        schedule := rest,
        ports := s.ports.modify p fun q => { q with
          req := { op := op, body := B, timeout := n }, reqValid := true } }) ∧
    (q.reqValid = true ∨ q.resValid = true ∨ (s.lockOwner = some p ∧ s.tphase ≠ .excl) →
      step s = .next { s with schedule := rest })

/-- `HostCollect` (R186). -/
def Obligations.CollectTakesThePostedResult : Prop :=
  ∀ (s : State) (p : Nat) (q : Port) (rest : List Move), Ready s (.collect p) rest →
    s.ports[p]? = some q → q.resValid = true →
    step s = .next { s with
      schedule := rest, collected := some (p, q.res),
      ports := s.ports.modify p fun q => { q with resValid := false } }

/-- The flush (R191) and the request frame (R192). -/
def Obligations.HeaderCmdLoadsTheRequestFrame : Prop :=
  ∀ s : State, s.tphase = .flush →
    exec .headerCmd s = .next { s with
      rxFifo := [], txIdx := 0, tphase := .send,
      txFrame := [0x01, 0x43, 0x4D, 0x44, 0x02] ++ s.curBody ++ [0x03] ++ hex8 (crc32 s.curBody) ++ [0x04] } ∧
    ([0x01, 0x43, 0x4D, 0x44, 0x02] ++ s.curBody ++ [0x03] ++ hex8 (crc32 s.curBody) ++ [0x04]).length =
      s.curBody.length + 15

/-- `SendByte` (R193) run to the end of the frame. -/
def Obligations.WholeFrameIsSentInOrder : Prop :=
  ∀ (s : State) (rest : List Move), configOk s = true → s.tphase = .send → s.xpErr = none →
    s.txIdx < s.txFrame.length →
    s.schedule = List.replicate (s.txFrame.length - s.txIdx) .own ++ rest →
    Host.Core.run Sys2Proof.core (s.txFrame.length - s.txIdx) s = .next { s with
      schedule := rest, txWire := s.txWire ++ s.txFrame.drop s.txIdx, txIdx := s.txFrame.length,
      tphase := .drain }

/-- `Drain` (R194) once the line is drained; that a step not enabled, while `tx_drained` is 0, leaves the state as it is, is the model's rendering (log entries 1 and 15; U15). -/
def Obligations.DrainStartsTheReceivePhase : Prop :=
  ∀ (s : State) (rest : List Move), Ready s .own rest → s.tphase = .drain → s.xpErr = none →
    s.decActive = false →
    (s.txDrained = true → step s = .next { s with
      schedule := rest, parser := { pstate := .idle, hdrBuf := [], bodyBuf := [], crcBuf := [] },
      decTimer := s.curTimeout, decActive := true, tphase := .recv }) ∧
    (s.txDrained = false → step s = .next { s with schedule := rest })

/-- Block reset (R270 to R272) as a step that makes the move `rst`; the elements the spec leaves unspecified are not spoken of. -/
def Obligations.BlockResetLeavesTheTransportAlone : Prop :=
  ∀ (s : State) (rest : List Move), Ready s .rst rest →
    ∃ t : State, step s = .next t ∧
      t.parser = { pstate := .idle, hdrBuf := [], bodyBuf := [], crcBuf := [] } ∧
      t.decTimer = 0 ∧ t.decActive = false ∧ t.lockOwner = none ∧ t.tphase = .idle ∧ t.txFrame = [] ∧
      t.txIdx = 0 ∧ t.evlog = [] ∧ t.ports.length = s.ports.length ∧
      (∀ q ∈ t.ports, q.reqValid = false ∧ q.resValid = false) ∧
      t.params = s.params ∧ t.rxFifo = s.rxFifo ∧ t.txWire = s.txWire ∧ t.xpOpen = s.xpOpen ∧
      t.xpErr = s.xpErr ∧ t.txDrained = s.txDrained ∧ t.schedule = rest

/-- The reset values of R45 (those the spec gives; the others are log entry 3). -/
def Obligations.ResetStateHoldsTheResetValues : Prop :=
  State.reset.parser = { pstate := .idle, hdrBuf := [], bodyBuf := [], crcBuf := [] } ∧
  State.reset.decTimer = 0 ∧ State.reset.decActive = false ∧ State.reset.lockOwner = none ∧
  State.reset.tphase = .idle ∧ State.reset.txFrame = [] ∧ State.reset.txIdx = 0 ∧
  State.reset.evlog = [] ∧ ∀ q ∈ State.reset.ports, q.reqValid = false ∧ q.resValid = false

/-- The invariant at reset; `State.reset` has the configuration and values of log entries 2 and 3. -/
def Obligations.InvariantHoldsAfterReset : Prop :=
  Inv State.reset

/-- The invariant of Safety.lean is inductive. -/
def Obligations.EveryStepKeepsTheInvariant : Prop :=
  ∀ s t : State, Inv s → step s = .next t → Inv t

/-- No error halts the block (R240, R268). -/
def Obligations.NoStepStopsTheBlock : Prop :=
  ∀ s : State, Inv s → ∃ t : State, step s = .next t

/-- The round trips of the decoder and the encoder (R103). -/
def Obligations.DecodeAndEncodeAgree : Prop :=
  (∀ (i : Instr) (f : Fetched), encode i = some f → decode f = .instr i) ∧
  (∀ (st : PState) (b : Byte), encode (decodeRx st b) = some (.rx st b)) ∧
  (∀ i : Instr, encode i = none ↔
    (∃ h B, i = .encode h B) ∨ (∃ B, i = .crc32 B) ∨ (∃ n, i = .decode n))

/-- Sample words from the table. -/
def Obligations.SampleWordsDecode : Prop :=
  decode (.rx .idle 0b00000001) = .instr .idleSoh ∧
  decode (.rx .idle 0b00000011) = .instr (.idleSkip_02_03 0b1) ∧
  decode (.rx .inHeader 0b01000011) = .instr (.hdrPrint_40_7F 0b000011) ∧
  decode (.rx .inHeader 0b00001010) = .instr (.hdrOther_08_0F 0b010) ∧
  decode (.rx .inBody 0b11111110) = .instr .bodyPrint_FE_FE ∧
  decode (.rx .inBody 0b00000100) = .instr .bodyEot ∧
  decode (.rx .inCrc 0b01100011) = .instr (.crcHex_62_63 0b1) ∧
  decode (.rx .inCrc 0b01100111) = .instr .crcNonhex_67_67 ∧
  decode (.req 1 0b01 [0x7B] 9) = .instr (.cmdNr 1 [0x7B] 9) ∧
  decode (.req 0 0b11 [] 0) = .instr (.release 0) ∧
  decode (.rxHeader [0x45, 0x52, 0x52] [0x61]) = .instr (.headerErr [0x61]) ∧
  decode (.rxHeader [0x72, 0x65, 0x73, 0x70] []) = .rejected .unexpectedHeader

/-- `ClassifyResp` (R222) and the order of its tests (R226); `JsonParse` is left open. -/
def Obligations.ResponseBodiesAreClassified : Prop :=
  (∀ B : Bytes, classifyResp B =
    match Config.jsonParse B with
    | none => .protocolError 0
    | some v => classifyJson v) ∧
  (∀ v w : JsonValue, member v keyResult = some w → classifyJson v = .success w) ∧
  (∀ v : JsonValue, member v keyResult = none → member v keyError = none →
    classifyJson v = .protocolError 1) ∧
  (∀ (v e : JsonValue) (q : Rat) (m : Text), member v keyResult = none → member v keyError = some e →
    member e keyCode = some (.num q) → member e keyMessage = some (.str m) → q.den = 1 →
    classifyJson v = .applicationError q.num m) ∧
  (∀ v e : JsonValue, member v keyResult = none → member v keyError = some e →
    (∀ (q : Rat) (m : Text), ¬ (member e keyCode = some (.num q) ∧ member e keyMessage = some (.str m) ∧
      q.den = 1)) → classifyJson v = .protocolError 2)

/-- `evlog` is append-only (R36). -/
def Obligations.TraceOnlyGrows : Prop :=
  ∀ (s t : State) (m : Move) (rest : List Move), Ready s m rest → m ≠ .rst → step s = .next t →
    ∃ es : List Event, t.evlog = s.evlog ++ es

/-- Who touches the two streams, and when (R40, R41, R51, R64). -/
def Obligations.StreamsAreTouchedOnlyInTheirPhases : Prop :=
  ∀ (s t : State) (m : Move) (rest : List Move), Ready s m rest → step s = .next t →
    (t.txWire = s.txWire ∨
      (m = .own ∧ s.tphase = .send ∧ ∃ b, s.txFrame[s.txIdx]? = some b ∧ t.txWire = s.txWire ++ [b])) ∧
    (t.rxFifo = s.rxFifo ∨
      (∃ b, m = .rxArrive b ∧ t.rxFifo = s.rxFifo ++ [b]) ∨
      (∃ k, m = .rxLose k ∧ t.rxFifo = s.rxFifo.eraseIdx k) ∨
      (m = .own ∧ s.tphase = .flush ∧ t.rxFifo = []) ∨
      (m = .own ∧ s.tphase = .recv ∧ ∃ b, s.rxFifo = b :: t.rxFifo))

/-- The lock and the latched request (R28, R30, R206, R207). -/
def Obligations.LockIsLeftOnlyByFinishReleaseOrReset : Prop :=
  ∀ (s t : State) (m : Move) (rest : List Move) (p : Nat), Ready s m rest → step s = .next t →
    s.lockOwner = some p →
    (t.lockOwner = some p ∧ t.curOp = s.curOp ∧ t.curBody = s.curBody ∧ t.curTimeout = s.curTimeout) ∨
    (t.lockOwner = none ∧ t.tphase = .idle ∧ (m = .own ∨ (m = .take p ∧ s.tphase = .excl) ∨ m = .rst))

/-- A condition of one port is never delivered to another (R35, R258, R263). -/
def Obligations.PortsAreIsolated : Prop :=
  ∀ (s t : State) (m : Move) (rest : List Move) (p : Nat), Ready s m rest → step s = .next t →
    t.ports[p]? = s.ports[p]? ∨ (∃ op B n, m = .post p op B n) ∨ m = .collect p ∨ m = .take p ∨
      (m = .own ∧ s.lockOwner = some p) ∨ m = .rst

/-- The premise of R280 and what it gives (R40, R42, R62). -/
def Obligations.UndisturbedTransactionOwnsTheTransport : Prop :=
  ∀ s t : State, quietStep s → s.tphase.active = true → step s = .next t →
    t.xpOpen = s.xpOpen ∧ (s.tphase ≠ .send → t.txWire = s.txWire) ∧
    (t.rxFifo = s.rxFifo ∨ (∃ b, t.rxFifo = s.rxFifo ++ [b]) ∨ (s.tphase = .flush ∧ t.rxFifo = []) ∨
      (s.tphase = .recv ∧ ∃ b, s.rxFifo = b :: t.rxFifo))
end

