-- ==== Sys2Proof/Machine/Facade.lean ====
section
/-! DEFINITION. The facade's pseudo-operations, outside the block (spec/45_classifier_and_facade.md rules R230 to
R237), as the request bodies and port posts they expand to, and the caller's baud-rate sequence
(spec/70_reset_and_hazards.md rule R282). `uptime` and `reboot` are not here: the spec gives neither a method
string nor parameters (R234, U20). -/

namespace Sys2Proof.Machine

/-- A byte `Q(s)` is defined for (R230): printable ASCII, neither a quotation mark nor a backslash. -/
def plainAscii (b : Byte) : Bool :=
  decide (0x20 ≤ b.toNat) && decide (b.toNat ≤ 0x7E) && decide (b ≠ 0x22) && decide (b ≠ 0x5C)

/-- `Q(s)` (R230); `none` where the spec leaves it undefined (U19). -/
def quoted (s : Bytes) : Option Bytes := if s.all plainAscii then some ([0x22] ++ s ++ [0x22]) else none

/-- `Dec(n)`, the decimal numeral of `n` (R233). -/
def decNumeral (n : Nat) : Bytes := (Nat.toDigits 10 n).map fun c => BitVec.ofNat 8 c.toNat

/-- The bytes of `method` between quotation marks, with the colon, after an opening brace (R230). -/
def textMethod : Bytes := [0x7B, 0x22, 0x6D, 0x65, 0x74, 0x68, 0x6F, 0x64, 0x22, 0x3A]
/-- The bytes of `params` between quotation marks, after a comma, with the colon (R230). -/
def textParams : Bytes := [0x2C, 0x22, 0x70, 0x61, 0x72, 0x61, 0x6D, 0x73, 0x22, 0x3A]
/-- The closing brace (R230). -/
def textClose : Bytes := [0x7D]

/-- `BuildRequest(method, params)` (R230); `params` is the caller's own serialisation, omitted when absent. -/
def buildRequest (method : Bytes) (params : Option Bytes) : Option Bytes :=
  (quoted method).map fun q =>
    match params with
    | none => textMethod ++ q ++ textClose
    | some p => textMethod ++ q ++ textParams ++ p ++ textClose

/-- `version` as bytes (R231). -/
def methodVersion : Bytes := [0x76, 0x65, 0x72, 0x73, 0x69, 0x6F, 0x6E]
/-- `echo` as bytes (R232). -/
def methodEcho : Bytes := [0x65, 0x63, 0x68, 0x6F]
/-- `set-baud` as bytes (R233; C6). -/
def methodSetBaud : Bytes := [0x73, 0x65, 0x74, 0x2D, 0x62, 0x61, 0x75, 0x64]

/-- The `params` text of `echo`: an object whose `data` is the string (R232). -/
def echoParams (s : Bytes) : Option Bytes :=
  (quoted s).map fun q => [0x7B, 0x22, 0x64, 0x61, 0x74, 0x61, 0x22, 0x3A] ++ q ++ textClose

/-- The `params` text of `set-baud`: an object whose `value` is the rate (R233). -/
def setBaudParams (n : Nat) : Bytes :=
  [0x7B, 0x22, 0x76, 0x61, 0x6C, 0x75, 0x65, 0x22, 0x3A] ++ decNumeral n ++ textClose

/-- `version` (R231). -/
def versionPost (p timeout : Nat) : Option Move :=
  (buildRequest methodVersion none).map fun body => .post p HostOp.cmd.code body timeout

/-- `echo(s)` (R232). -/
def echoPost (p : Nat) (s : Bytes) (timeout : Nat) : Option Move :=
  (echoParams s).bind fun params =>
    (buildRequest methodEcho (some params)).map fun body => .post p HostOp.cmd.code body timeout

/-- `set-baud(n)` (R233). -/
def setBaudPost (p n timeout : Nat) : Option Move :=
  (buildRequest methodSetBaud (some (setBaudParams n))).map fun body => .post p HostOp.cmdNr.code body timeout

/-- The text whose characters are these bytes, one per byte: of the bytes `Q` is defined for, the string
itself (R9, R230). -/
def asciiText (s : Bytes) : Text := s.map fun b => Char.ofNat b.toNat

/-- What `echo(s)` reports on the result `r`, `s` being the string `echoPost` sends: success when the outcome
is `Success(str(s))` with the same `s` (R232). `none` where the spec does not say what it reports: another
outcome, another value, or a string that cannot be sent (N21, U19; DESIGN CHOICE, log entry 21). -/
def echoReport (s : Bytes) (r : Result) : Option Bool :=
  if s.all plainAscii && decide (r.outcome = .success) && decide (r.value = .str (asciiText s)) then some true
  else none

/-- What `set-baud` expects (R233). -/
def setBaudOk (r : Result) : Bool := r.ok

/-- The text `version`. -/
def keyVersion : Text := ['v', 'e', 'r', 's', 'i', 'o', 'n']

/-- `fw_version` on the result of `version` (R235): the string under `version`. `none` where the spec does
not say what it returns (N21; DESIGN CHOICE, log entry 21). -/
def fwVersion (r : Result) : Option Text :=
  match r.outcome, member r.value keyVersion with
  | .success, some (.str t) => some t
  | _, _ => none

/-- A caller's seconds as ticks, rounded up (R237). -/
def ticksOfSeconds (c : Params) (seconds : Rat) : Nat := (seconds * c.tickHz).ceil.toNat

/-- The caller's own moves of a live baud-rate change (R282): `set-baud`, then the hold, the Transport's
change of rate under it, and the release. The sequencer's moves, the wait of the settle delay and the
collecting of each result come between. -/
def baudChangeMoves (p n timeout : Nat) : Option (List Move) :=
  (setBaudPost p n timeout).map fun m =>
    [m, .post p HostOp.excl.code [] 0, .reconfigure, .post p HostOp.release.code [] 0]

end Sys2Proof.Machine
end

