-- ==== Sys2Proof/Laws/Facade.lean ====
section
/-! SUPPORT. For each pseudo-operation of the facade that has a condition, one lemma that says when it answers
and what. -/

namespace Sys2Proof.Laws

open Sys2Proof.Machine

/-- `Q(s)` is defined exactly on the strings that need no escape (R230). -/
theorem quoted_eq_some_iff {s t : Bytes} :
    quoted s = some t ↔ s.all plainAscii = true ∧ t = [0x22] ++ s ++ [0x22] := by
  unfold quoted
  by_cases h : s.all plainAscii = true
  · rw [if_pos h, Option.some.injEq]
    exact ⟨fun e => ⟨h, e.symm⟩, fun e => e.2.symm⟩
  · rw [if_neg h]
    exact ⟨fun e => (nomatch e), fun e => absurd e.1 h⟩

/-- All `echo(s)` can report (R232): success, and only on the result that holds the string sent. -/
theorem echoReport_eq_some_iff {s : Bytes} {r : Result} {b : Bool} :
    echoReport s r = some b ↔
      b = true ∧ s.all plainAscii = true ∧ r.outcome = .success ∧ r.value = .str (asciiText s) := by
  unfold echoReport
  split <;> rename_i h <;> simp only [Bool.and_eq_true, decide_eq_true_eq] at h
  · exact ⟨fun e => ⟨(Option.some.inj e).symm, h.1.1, h.1.2, h.2⟩, fun e => congrArg some e.1.symm⟩
  · exact ⟨fun e => (nomatch e), fun e => absurd ⟨⟨e.2.1, e.2.2.1⟩, e.2.2.2⟩ h⟩

/-- The post of `echo(s)` exists exactly for a string that needs no escape; it is a `CMD` whose body carries
that string between quotation marks (R232). -/
theorem echoPost_eq_some_iff {p timeout : Nat} {s : Bytes} {m : Move} :
    echoPost p s timeout = some m ↔ s.all plainAscii = true ∧
      m = .post p HostOp.cmd.code
        (textMethod ++ ([0x22] ++ methodEcho ++ [0x22]) ++ textParams ++
          ([0x7B, 0x22, 0x64, 0x61, 0x74, 0x61, 0x22, 0x3A] ++ ([0x22] ++ s ++ [0x22]) ++ textClose) ++
          textClose) timeout := by
  have hm : quoted methodEcho = some ([0x22] ++ methodEcho ++ [0x22]) :=
    quoted_eq_some_iff.2 ⟨by decide, rfl⟩
  by_cases hs : s.all plainAscii = true
  · have hq : quoted s = some ([0x22] ++ s ++ [0x22]) := quoted_eq_some_iff.2 ⟨hs, rfl⟩
    simp only [echoPost, echoParams, buildRequest, hq, hm, Option.map_some, Option.bind_some,
      Option.some.injEq, hs, true_and]
    exact eq_comm
  · simp [echoPost, echoParams, quoted, hs]

end Sys2Proof.Laws
end

