-- ==== Sys2Proof/Laws/State.lean ====
section
/-! SUPPORT. What each named update of the state does to each field: one lemma per field per update, so that
no later proof unfolds a record update. -/

namespace Sys2Proof.Laws

open Sys2Proof.Machine

@[simp] theorem emit_params (e : Event) (s : State) : (emit e s).params = s.params := rfl
@[simp] theorem emit_parser (e : Event) (s : State) : (emit e s).parser = s.parser := rfl
@[simp] theorem emit_decTimer (e : Event) (s : State) : (emit e s).decTimer = s.decTimer := rfl
@[simp] theorem emit_decActive (e : Event) (s : State) : (emit e s).decActive = s.decActive := rfl
@[simp] theorem emit_lockOwner (e : Event) (s : State) : (emit e s).lockOwner = s.lockOwner := rfl
@[simp] theorem emit_tphase (e : Event) (s : State) : (emit e s).tphase = s.tphase := rfl
@[simp] theorem emit_curOp (e : Event) (s : State) : (emit e s).curOp = s.curOp := rfl
@[simp] theorem emit_curBody (e : Event) (s : State) : (emit e s).curBody = s.curBody := rfl
@[simp] theorem emit_curTimeout (e : Event) (s : State) : (emit e s).curTimeout = s.curTimeout := rfl
@[simp] theorem emit_txFrame (e : Event) (s : State) : (emit e s).txFrame = s.txFrame := rfl
@[simp] theorem emit_txIdx (e : Event) (s : State) : (emit e s).txIdx = s.txIdx := rfl
@[simp] theorem emit_ports (e : Event) (s : State) : (emit e s).ports = s.ports := rfl
@[simp] theorem emit_evlog (e : Event) (s : State) : (emit e s).evlog = s.evlog ++ [e] := rfl
@[simp] theorem emit_rxFifo (e : Event) (s : State) : (emit e s).rxFifo = s.rxFifo := rfl
@[simp] theorem emit_txWire (e : Event) (s : State) : (emit e s).txWire = s.txWire := rfl
@[simp] theorem emit_xpOpen (e : Event) (s : State) : (emit e s).xpOpen = s.xpOpen := rfl
@[simp] theorem emit_xpErr (e : Event) (s : State) : (emit e s).xpErr = s.xpErr := rfl
@[simp] theorem emit_txDrained (e : Event) (s : State) : (emit e s).txDrained = s.txDrained := rfl
@[simp] theorem emit_decOut (e : Event) (s : State) : (emit e s).decOut = s.decOut := rfl
@[simp] theorem emit_decResult (e : Event) (s : State) : (emit e s).decResult = s.decResult := rfl
@[simp] theorem emit_encOut (e : Event) (s : State) : (emit e s).encOut = s.encOut := rfl
@[simp] theorem emit_crcOut (e : Event) (s : State) : (emit e s).crcOut = s.crcOut := rfl
@[simp] theorem emit_collected (e : Event) (s : State) : (emit e s).collected = s.collected := rfl
@[simp] theorem emit_freeCount (e : Event) (s : State) : (emit e s).freeCount = s.freeCount := rfl
@[simp] theorem emit_schedule (e : Event) (s : State) : (emit e s).schedule = s.schedule := rfl

@[simp] theorem setOut_params (o : DecOut) (s : State) : (setOut o s).params = s.params := rfl
@[simp] theorem setOut_parser (o : DecOut) (s : State) : (setOut o s).parser = s.parser := rfl
@[simp] theorem setOut_decTimer (o : DecOut) (s : State) : (setOut o s).decTimer = s.decTimer := rfl
@[simp] theorem setOut_decActive (o : DecOut) (s : State) : (setOut o s).decActive = s.decActive := rfl
@[simp] theorem setOut_lockOwner (o : DecOut) (s : State) : (setOut o s).lockOwner = s.lockOwner := rfl
@[simp] theorem setOut_tphase (o : DecOut) (s : State) : (setOut o s).tphase = s.tphase := rfl
@[simp] theorem setOut_curOp (o : DecOut) (s : State) : (setOut o s).curOp = s.curOp := rfl
@[simp] theorem setOut_curBody (o : DecOut) (s : State) : (setOut o s).curBody = s.curBody := rfl
@[simp] theorem setOut_curTimeout (o : DecOut) (s : State) : (setOut o s).curTimeout = s.curTimeout := rfl
@[simp] theorem setOut_txFrame (o : DecOut) (s : State) : (setOut o s).txFrame = s.txFrame := rfl
@[simp] theorem setOut_txIdx (o : DecOut) (s : State) : (setOut o s).txIdx = s.txIdx := rfl
@[simp] theorem setOut_ports (o : DecOut) (s : State) : (setOut o s).ports = s.ports := rfl
@[simp] theorem setOut_evlog (o : DecOut) (s : State) : (setOut o s).evlog = s.evlog := rfl
@[simp] theorem setOut_rxFifo (o : DecOut) (s : State) : (setOut o s).rxFifo = s.rxFifo := rfl
@[simp] theorem setOut_txWire (o : DecOut) (s : State) : (setOut o s).txWire = s.txWire := rfl
@[simp] theorem setOut_xpOpen (o : DecOut) (s : State) : (setOut o s).xpOpen = s.xpOpen := rfl
@[simp] theorem setOut_xpErr (o : DecOut) (s : State) : (setOut o s).xpErr = s.xpErr := rfl
@[simp] theorem setOut_txDrained (o : DecOut) (s : State) : (setOut o s).txDrained = s.txDrained := rfl
@[simp] theorem setOut_decOut (o : DecOut) (s : State) : (setOut o s).decOut = o := rfl
@[simp] theorem setOut_decResult (o : DecOut) (s : State) : (setOut o s).decResult = s.decResult := rfl
@[simp] theorem setOut_encOut (o : DecOut) (s : State) : (setOut o s).encOut = s.encOut := rfl
@[simp] theorem setOut_crcOut (o : DecOut) (s : State) : (setOut o s).crcOut = s.crcOut := rfl
@[simp] theorem setOut_collected (o : DecOut) (s : State) : (setOut o s).collected = s.collected := rfl
@[simp] theorem setOut_freeCount (o : DecOut) (s : State) : (setOut o s).freeCount = s.freeCount := rfl
@[simp] theorem setOut_schedule (o : DecOut) (s : State) : (setOut o s).schedule = s.schedule := rfl

@[simp] theorem setParser_params (q : Parser) (s : State) : (setParser q s).params = s.params := rfl
@[simp] theorem setParser_parser (q : Parser) (s : State) : (setParser q s).parser = q := rfl
@[simp] theorem setParser_decTimer (q : Parser) (s : State) : (setParser q s).decTimer = s.decTimer := rfl
@[simp] theorem setParser_decActive (q : Parser) (s : State) : (setParser q s).decActive = s.decActive := rfl
@[simp] theorem setParser_lockOwner (q : Parser) (s : State) : (setParser q s).lockOwner = s.lockOwner := rfl
@[simp] theorem setParser_tphase (q : Parser) (s : State) : (setParser q s).tphase = s.tphase := rfl
@[simp] theorem setParser_curOp (q : Parser) (s : State) : (setParser q s).curOp = s.curOp := rfl
@[simp] theorem setParser_curBody (q : Parser) (s : State) : (setParser q s).curBody = s.curBody := rfl
@[simp] theorem setParser_curTimeout (q : Parser) (s : State) : (setParser q s).curTimeout = s.curTimeout := rfl
@[simp] theorem setParser_txFrame (q : Parser) (s : State) : (setParser q s).txFrame = s.txFrame := rfl
@[simp] theorem setParser_txIdx (q : Parser) (s : State) : (setParser q s).txIdx = s.txIdx := rfl
@[simp] theorem setParser_ports (q : Parser) (s : State) : (setParser q s).ports = s.ports := rfl
@[simp] theorem setParser_evlog (q : Parser) (s : State) : (setParser q s).evlog = s.evlog := rfl
@[simp] theorem setParser_rxFifo (q : Parser) (s : State) : (setParser q s).rxFifo = s.rxFifo := rfl
@[simp] theorem setParser_txWire (q : Parser) (s : State) : (setParser q s).txWire = s.txWire := rfl
@[simp] theorem setParser_xpOpen (q : Parser) (s : State) : (setParser q s).xpOpen = s.xpOpen := rfl
@[simp] theorem setParser_xpErr (q : Parser) (s : State) : (setParser q s).xpErr = s.xpErr := rfl
@[simp] theorem setParser_txDrained (q : Parser) (s : State) : (setParser q s).txDrained = s.txDrained := rfl
@[simp] theorem setParser_decOut (q : Parser) (s : State) : (setParser q s).decOut = s.decOut := rfl
@[simp] theorem setParser_decResult (q : Parser) (s : State) : (setParser q s).decResult = s.decResult := rfl
@[simp] theorem setParser_encOut (q : Parser) (s : State) : (setParser q s).encOut = s.encOut := rfl
@[simp] theorem setParser_crcOut (q : Parser) (s : State) : (setParser q s).crcOut = s.crcOut := rfl
@[simp] theorem setParser_collected (q : Parser) (s : State) : (setParser q s).collected = s.collected := rfl
@[simp] theorem setParser_freeCount (q : Parser) (s : State) : (setParser q s).freeCount = s.freeCount := rfl
@[simp] theorem setParser_schedule (q : Parser) (s : State) : (setParser q s).schedule = s.schedule := rfl

@[simp] theorem parserReset_params (s : State) : (parserReset s).params = s.params := rfl
@[simp] theorem parserReset_parser (s : State) : (parserReset s).parser = Parser.empty := rfl
@[simp] theorem parserReset_decTimer (s : State) : (parserReset s).decTimer = s.decTimer := rfl
@[simp] theorem parserReset_decActive (s : State) : (parserReset s).decActive = s.decActive := rfl
@[simp] theorem parserReset_lockOwner (s : State) : (parserReset s).lockOwner = s.lockOwner := rfl
@[simp] theorem parserReset_tphase (s : State) : (parserReset s).tphase = s.tphase := rfl
@[simp] theorem parserReset_curOp (s : State) : (parserReset s).curOp = s.curOp := rfl
@[simp] theorem parserReset_curBody (s : State) : (parserReset s).curBody = s.curBody := rfl
@[simp] theorem parserReset_curTimeout (s : State) : (parserReset s).curTimeout = s.curTimeout := rfl
@[simp] theorem parserReset_txFrame (s : State) : (parserReset s).txFrame = s.txFrame := rfl
@[simp] theorem parserReset_txIdx (s : State) : (parserReset s).txIdx = s.txIdx := rfl
@[simp] theorem parserReset_ports (s : State) : (parserReset s).ports = s.ports := rfl
@[simp] theorem parserReset_evlog (s : State) : (parserReset s).evlog = s.evlog := rfl
@[simp] theorem parserReset_rxFifo (s : State) : (parserReset s).rxFifo = s.rxFifo := rfl
@[simp] theorem parserReset_txWire (s : State) : (parserReset s).txWire = s.txWire := rfl
@[simp] theorem parserReset_xpOpen (s : State) : (parserReset s).xpOpen = s.xpOpen := rfl
@[simp] theorem parserReset_xpErr (s : State) : (parserReset s).xpErr = s.xpErr := rfl
@[simp] theorem parserReset_txDrained (s : State) : (parserReset s).txDrained = s.txDrained := rfl
@[simp] theorem parserReset_decOut (s : State) : (parserReset s).decOut = s.decOut := rfl
@[simp] theorem parserReset_decResult (s : State) : (parserReset s).decResult = s.decResult := rfl
@[simp] theorem parserReset_encOut (s : State) : (parserReset s).encOut = s.encOut := rfl
@[simp] theorem parserReset_crcOut (s : State) : (parserReset s).crcOut = s.crcOut := rfl
@[simp] theorem parserReset_collected (s : State) : (parserReset s).collected = s.collected := rfl
@[simp] theorem parserReset_freeCount (s : State) : (parserReset s).freeCount = s.freeCount := rfl
@[simp] theorem parserReset_schedule (s : State) : (parserReset s).schedule = s.schedule := rfl

@[simp] theorem rxDrop_params (s : State) : (rxDrop s).params = s.params := rfl
@[simp] theorem rxDrop_parser (s : State) : (rxDrop s).parser = s.parser := rfl
@[simp] theorem rxDrop_decTimer (s : State) : (rxDrop s).decTimer = s.decTimer := rfl
@[simp] theorem rxDrop_decActive (s : State) : (rxDrop s).decActive = s.decActive := rfl
@[simp] theorem rxDrop_lockOwner (s : State) : (rxDrop s).lockOwner = s.lockOwner := rfl
@[simp] theorem rxDrop_tphase (s : State) : (rxDrop s).tphase = s.tphase := rfl
@[simp] theorem rxDrop_curOp (s : State) : (rxDrop s).curOp = s.curOp := rfl
@[simp] theorem rxDrop_curBody (s : State) : (rxDrop s).curBody = s.curBody := rfl
@[simp] theorem rxDrop_curTimeout (s : State) : (rxDrop s).curTimeout = s.curTimeout := rfl
@[simp] theorem rxDrop_txFrame (s : State) : (rxDrop s).txFrame = s.txFrame := rfl
@[simp] theorem rxDrop_txIdx (s : State) : (rxDrop s).txIdx = s.txIdx := rfl
@[simp] theorem rxDrop_ports (s : State) : (rxDrop s).ports = s.ports := rfl
@[simp] theorem rxDrop_evlog (s : State) : (rxDrop s).evlog = s.evlog := rfl
@[simp] theorem rxDrop_rxFifo (s : State) : (rxDrop s).rxFifo = s.rxFifo.tail := rfl
@[simp] theorem rxDrop_txWire (s : State) : (rxDrop s).txWire = s.txWire := rfl
@[simp] theorem rxDrop_xpOpen (s : State) : (rxDrop s).xpOpen = s.xpOpen := rfl
@[simp] theorem rxDrop_xpErr (s : State) : (rxDrop s).xpErr = s.xpErr := rfl
@[simp] theorem rxDrop_txDrained (s : State) : (rxDrop s).txDrained = s.txDrained := rfl
@[simp] theorem rxDrop_decOut (s : State) : (rxDrop s).decOut = s.decOut := rfl
@[simp] theorem rxDrop_decResult (s : State) : (rxDrop s).decResult = s.decResult := rfl
@[simp] theorem rxDrop_encOut (s : State) : (rxDrop s).encOut = s.encOut := rfl
@[simp] theorem rxDrop_crcOut (s : State) : (rxDrop s).crcOut = s.crcOut := rfl
@[simp] theorem rxDrop_collected (s : State) : (rxDrop s).collected = s.collected := rfl
@[simp] theorem rxDrop_freeCount (s : State) : (rxDrop s).freeCount = s.freeCount := rfl
@[simp] theorem rxDrop_schedule (s : State) : (rxDrop s).schedule = s.schedule := rfl

@[simp] theorem rxFlush_params (s : State) : (rxFlush s).params = s.params := rfl
@[simp] theorem rxFlush_parser (s : State) : (rxFlush s).parser = s.parser := rfl
@[simp] theorem rxFlush_decTimer (s : State) : (rxFlush s).decTimer = s.decTimer := rfl
@[simp] theorem rxFlush_decActive (s : State) : (rxFlush s).decActive = s.decActive := rfl
@[simp] theorem rxFlush_lockOwner (s : State) : (rxFlush s).lockOwner = s.lockOwner := rfl
@[simp] theorem rxFlush_tphase (s : State) : (rxFlush s).tphase = s.tphase := rfl
@[simp] theorem rxFlush_curOp (s : State) : (rxFlush s).curOp = s.curOp := rfl
@[simp] theorem rxFlush_curBody (s : State) : (rxFlush s).curBody = s.curBody := rfl
@[simp] theorem rxFlush_curTimeout (s : State) : (rxFlush s).curTimeout = s.curTimeout := rfl
@[simp] theorem rxFlush_txFrame (s : State) : (rxFlush s).txFrame = s.txFrame := rfl
@[simp] theorem rxFlush_txIdx (s : State) : (rxFlush s).txIdx = s.txIdx := rfl
@[simp] theorem rxFlush_ports (s : State) : (rxFlush s).ports = s.ports := rfl
@[simp] theorem rxFlush_evlog (s : State) : (rxFlush s).evlog = s.evlog := rfl
@[simp] theorem rxFlush_rxFifo (s : State) : (rxFlush s).rxFifo = [] := rfl
@[simp] theorem rxFlush_txWire (s : State) : (rxFlush s).txWire = s.txWire := rfl
@[simp] theorem rxFlush_xpOpen (s : State) : (rxFlush s).xpOpen = s.xpOpen := rfl
@[simp] theorem rxFlush_xpErr (s : State) : (rxFlush s).xpErr = s.xpErr := rfl
@[simp] theorem rxFlush_txDrained (s : State) : (rxFlush s).txDrained = s.txDrained := rfl
@[simp] theorem rxFlush_decOut (s : State) : (rxFlush s).decOut = s.decOut := rfl
@[simp] theorem rxFlush_decResult (s : State) : (rxFlush s).decResult = s.decResult := rfl
@[simp] theorem rxFlush_encOut (s : State) : (rxFlush s).encOut = s.encOut := rfl
@[simp] theorem rxFlush_crcOut (s : State) : (rxFlush s).crcOut = s.crcOut := rfl
@[simp] theorem rxFlush_collected (s : State) : (rxFlush s).collected = s.collected := rfl
@[simp] theorem rxFlush_freeCount (s : State) : (rxFlush s).freeCount = s.freeCount := rfl
@[simp] theorem rxFlush_schedule (s : State) : (rxFlush s).schedule = s.schedule := rfl

@[simp] theorem txPush_params (b : Byte) (s : State) : (txPush b s).params = s.params := rfl
@[simp] theorem txPush_parser (b : Byte) (s : State) : (txPush b s).parser = s.parser := rfl
@[simp] theorem txPush_decTimer (b : Byte) (s : State) : (txPush b s).decTimer = s.decTimer := rfl
@[simp] theorem txPush_decActive (b : Byte) (s : State) : (txPush b s).decActive = s.decActive := rfl
@[simp] theorem txPush_lockOwner (b : Byte) (s : State) : (txPush b s).lockOwner = s.lockOwner := rfl
@[simp] theorem txPush_tphase (b : Byte) (s : State) : (txPush b s).tphase = s.tphase := rfl
@[simp] theorem txPush_curOp (b : Byte) (s : State) : (txPush b s).curOp = s.curOp := rfl
@[simp] theorem txPush_curBody (b : Byte) (s : State) : (txPush b s).curBody = s.curBody := rfl
@[simp] theorem txPush_curTimeout (b : Byte) (s : State) : (txPush b s).curTimeout = s.curTimeout := rfl
@[simp] theorem txPush_txFrame (b : Byte) (s : State) : (txPush b s).txFrame = s.txFrame := rfl
@[simp] theorem txPush_txIdx (b : Byte) (s : State) : (txPush b s).txIdx = s.txIdx := rfl
@[simp] theorem txPush_ports (b : Byte) (s : State) : (txPush b s).ports = s.ports := rfl
@[simp] theorem txPush_evlog (b : Byte) (s : State) : (txPush b s).evlog = s.evlog := rfl
@[simp] theorem txPush_rxFifo (b : Byte) (s : State) : (txPush b s).rxFifo = s.rxFifo := rfl
@[simp] theorem txPush_txWire (b : Byte) (s : State) : (txPush b s).txWire = s.txWire ++ [b] := rfl
@[simp] theorem txPush_xpOpen (b : Byte) (s : State) : (txPush b s).xpOpen = s.xpOpen := rfl
@[simp] theorem txPush_xpErr (b : Byte) (s : State) : (txPush b s).xpErr = s.xpErr := rfl
@[simp] theorem txPush_txDrained (b : Byte) (s : State) : (txPush b s).txDrained = s.txDrained := rfl
@[simp] theorem txPush_decOut (b : Byte) (s : State) : (txPush b s).decOut = s.decOut := rfl
@[simp] theorem txPush_decResult (b : Byte) (s : State) : (txPush b s).decResult = s.decResult := rfl
@[simp] theorem txPush_encOut (b : Byte) (s : State) : (txPush b s).encOut = s.encOut := rfl
@[simp] theorem txPush_crcOut (b : Byte) (s : State) : (txPush b s).crcOut = s.crcOut := rfl
@[simp] theorem txPush_collected (b : Byte) (s : State) : (txPush b s).collected = s.collected := rfl
@[simp] theorem txPush_freeCount (b : Byte) (s : State) : (txPush b s).freeCount = s.freeCount := rfl
@[simp] theorem txPush_schedule (b : Byte) (s : State) : (txPush b s).schedule = s.schedule := rfl

@[simp] theorem modifyPort_params (p : Nat) (f : Port → Port) (s : State) : (modifyPort p f s).params = s.params := rfl
@[simp] theorem modifyPort_parser (p : Nat) (f : Port → Port) (s : State) : (modifyPort p f s).parser = s.parser := rfl
@[simp] theorem modifyPort_decTimer (p : Nat) (f : Port → Port) (s : State) : (modifyPort p f s).decTimer = s.decTimer := rfl
@[simp] theorem modifyPort_decActive (p : Nat) (f : Port → Port) (s : State) : (modifyPort p f s).decActive = s.decActive := rfl
@[simp] theorem modifyPort_lockOwner (p : Nat) (f : Port → Port) (s : State) : (modifyPort p f s).lockOwner = s.lockOwner := rfl
@[simp] theorem modifyPort_tphase (p : Nat) (f : Port → Port) (s : State) : (modifyPort p f s).tphase = s.tphase := rfl
@[simp] theorem modifyPort_curOp (p : Nat) (f : Port → Port) (s : State) : (modifyPort p f s).curOp = s.curOp := rfl
@[simp] theorem modifyPort_curBody (p : Nat) (f : Port → Port) (s : State) : (modifyPort p f s).curBody = s.curBody := rfl
@[simp] theorem modifyPort_curTimeout (p : Nat) (f : Port → Port) (s : State) : (modifyPort p f s).curTimeout = s.curTimeout := rfl
@[simp] theorem modifyPort_txFrame (p : Nat) (f : Port → Port) (s : State) : (modifyPort p f s).txFrame = s.txFrame := rfl
@[simp] theorem modifyPort_txIdx (p : Nat) (f : Port → Port) (s : State) : (modifyPort p f s).txIdx = s.txIdx := rfl
@[simp] theorem modifyPort_ports (p : Nat) (f : Port → Port) (s : State) : (modifyPort p f s).ports = s.ports.modify p f := rfl
@[simp] theorem modifyPort_evlog (p : Nat) (f : Port → Port) (s : State) : (modifyPort p f s).evlog = s.evlog := rfl
@[simp] theorem modifyPort_rxFifo (p : Nat) (f : Port → Port) (s : State) : (modifyPort p f s).rxFifo = s.rxFifo := rfl
@[simp] theorem modifyPort_txWire (p : Nat) (f : Port → Port) (s : State) : (modifyPort p f s).txWire = s.txWire := rfl
@[simp] theorem modifyPort_xpOpen (p : Nat) (f : Port → Port) (s : State) : (modifyPort p f s).xpOpen = s.xpOpen := rfl
@[simp] theorem modifyPort_xpErr (p : Nat) (f : Port → Port) (s : State) : (modifyPort p f s).xpErr = s.xpErr := rfl
@[simp] theorem modifyPort_txDrained (p : Nat) (f : Port → Port) (s : State) : (modifyPort p f s).txDrained = s.txDrained := rfl
@[simp] theorem modifyPort_decOut (p : Nat) (f : Port → Port) (s : State) : (modifyPort p f s).decOut = s.decOut := rfl
@[simp] theorem modifyPort_decResult (p : Nat) (f : Port → Port) (s : State) : (modifyPort p f s).decResult = s.decResult := rfl
@[simp] theorem modifyPort_encOut (p : Nat) (f : Port → Port) (s : State) : (modifyPort p f s).encOut = s.encOut := rfl
@[simp] theorem modifyPort_crcOut (p : Nat) (f : Port → Port) (s : State) : (modifyPort p f s).crcOut = s.crcOut := rfl
@[simp] theorem modifyPort_collected (p : Nat) (f : Port → Port) (s : State) : (modifyPort p f s).collected = s.collected := rfl
@[simp] theorem modifyPort_freeCount (p : Nat) (f : Port → Port) (s : State) : (modifyPort p f s).freeCount = s.freeCount := rfl
@[simp] theorem modifyPort_schedule (p : Nat) (f : Port → Port) (s : State) : (modifyPort p f s).schedule = s.schedule := rfl

@[simp] theorem clearReq_params (p : Nat) (s : State) : (clearReq p s).params = s.params := rfl
@[simp] theorem clearReq_parser (p : Nat) (s : State) : (clearReq p s).parser = s.parser := rfl
@[simp] theorem clearReq_decTimer (p : Nat) (s : State) : (clearReq p s).decTimer = s.decTimer := rfl
@[simp] theorem clearReq_decActive (p : Nat) (s : State) : (clearReq p s).decActive = s.decActive := rfl
@[simp] theorem clearReq_lockOwner (p : Nat) (s : State) : (clearReq p s).lockOwner = s.lockOwner := rfl
@[simp] theorem clearReq_tphase (p : Nat) (s : State) : (clearReq p s).tphase = s.tphase := rfl
@[simp] theorem clearReq_curOp (p : Nat) (s : State) : (clearReq p s).curOp = s.curOp := rfl
@[simp] theorem clearReq_curBody (p : Nat) (s : State) : (clearReq p s).curBody = s.curBody := rfl
@[simp] theorem clearReq_curTimeout (p : Nat) (s : State) : (clearReq p s).curTimeout = s.curTimeout := rfl
@[simp] theorem clearReq_txFrame (p : Nat) (s : State) : (clearReq p s).txFrame = s.txFrame := rfl
@[simp] theorem clearReq_txIdx (p : Nat) (s : State) : (clearReq p s).txIdx = s.txIdx := rfl
@[simp] theorem clearReq_ports (p : Nat) (s : State) : (clearReq p s).ports = s.ports.modify p (fun q => { q with reqValid := false }) := rfl
@[simp] theorem clearReq_evlog (p : Nat) (s : State) : (clearReq p s).evlog = s.evlog := rfl
@[simp] theorem clearReq_rxFifo (p : Nat) (s : State) : (clearReq p s).rxFifo = s.rxFifo := rfl
@[simp] theorem clearReq_txWire (p : Nat) (s : State) : (clearReq p s).txWire = s.txWire := rfl
@[simp] theorem clearReq_xpOpen (p : Nat) (s : State) : (clearReq p s).xpOpen = s.xpOpen := rfl
@[simp] theorem clearReq_xpErr (p : Nat) (s : State) : (clearReq p s).xpErr = s.xpErr := rfl
@[simp] theorem clearReq_txDrained (p : Nat) (s : State) : (clearReq p s).txDrained = s.txDrained := rfl
@[simp] theorem clearReq_decOut (p : Nat) (s : State) : (clearReq p s).decOut = s.decOut := rfl
@[simp] theorem clearReq_decResult (p : Nat) (s : State) : (clearReq p s).decResult = s.decResult := rfl
@[simp] theorem clearReq_encOut (p : Nat) (s : State) : (clearReq p s).encOut = s.encOut := rfl
@[simp] theorem clearReq_crcOut (p : Nat) (s : State) : (clearReq p s).crcOut = s.crcOut := rfl
@[simp] theorem clearReq_collected (p : Nat) (s : State) : (clearReq p s).collected = s.collected := rfl
@[simp] theorem clearReq_freeCount (p : Nat) (s : State) : (clearReq p s).freeCount = s.freeCount := rfl
@[simp] theorem clearReq_schedule (p : Nat) (s : State) : (clearReq p s).schedule = s.schedule := rfl

@[simp] theorem postResult_params (p : Nat) (r : Result) (s : State) : (postResult p r s).params = s.params := rfl
@[simp] theorem postResult_parser (p : Nat) (r : Result) (s : State) : (postResult p r s).parser = s.parser := rfl
@[simp] theorem postResult_decTimer (p : Nat) (r : Result) (s : State) : (postResult p r s).decTimer = s.decTimer := rfl
@[simp] theorem postResult_decActive (p : Nat) (r : Result) (s : State) : (postResult p r s).decActive = s.decActive := rfl
@[simp] theorem postResult_lockOwner (p : Nat) (r : Result) (s : State) : (postResult p r s).lockOwner = s.lockOwner := rfl
@[simp] theorem postResult_tphase (p : Nat) (r : Result) (s : State) : (postResult p r s).tphase = s.tphase := rfl
@[simp] theorem postResult_curOp (p : Nat) (r : Result) (s : State) : (postResult p r s).curOp = s.curOp := rfl
@[simp] theorem postResult_curBody (p : Nat) (r : Result) (s : State) : (postResult p r s).curBody = s.curBody := rfl
@[simp] theorem postResult_curTimeout (p : Nat) (r : Result) (s : State) : (postResult p r s).curTimeout = s.curTimeout := rfl
@[simp] theorem postResult_txFrame (p : Nat) (r : Result) (s : State) : (postResult p r s).txFrame = s.txFrame := rfl
@[simp] theorem postResult_txIdx (p : Nat) (r : Result) (s : State) : (postResult p r s).txIdx = s.txIdx := rfl
@[simp] theorem postResult_ports (p : Nat) (r : Result) (s : State) : (postResult p r s).ports = s.ports.modify p (fun q => { q with res := r, resValid := true }) := rfl
@[simp] theorem postResult_evlog (p : Nat) (r : Result) (s : State) : (postResult p r s).evlog = s.evlog := rfl
@[simp] theorem postResult_rxFifo (p : Nat) (r : Result) (s : State) : (postResult p r s).rxFifo = s.rxFifo := rfl
@[simp] theorem postResult_txWire (p : Nat) (r : Result) (s : State) : (postResult p r s).txWire = s.txWire := rfl
@[simp] theorem postResult_xpOpen (p : Nat) (r : Result) (s : State) : (postResult p r s).xpOpen = s.xpOpen := rfl
@[simp] theorem postResult_xpErr (p : Nat) (r : Result) (s : State) : (postResult p r s).xpErr = s.xpErr := rfl
@[simp] theorem postResult_txDrained (p : Nat) (r : Result) (s : State) : (postResult p r s).txDrained = s.txDrained := rfl
@[simp] theorem postResult_decOut (p : Nat) (r : Result) (s : State) : (postResult p r s).decOut = s.decOut := rfl
@[simp] theorem postResult_decResult (p : Nat) (r : Result) (s : State) : (postResult p r s).decResult = s.decResult := rfl
@[simp] theorem postResult_encOut (p : Nat) (r : Result) (s : State) : (postResult p r s).encOut = s.encOut := rfl
@[simp] theorem postResult_crcOut (p : Nat) (r : Result) (s : State) : (postResult p r s).crcOut = s.crcOut := rfl
@[simp] theorem postResult_collected (p : Nat) (r : Result) (s : State) : (postResult p r s).collected = s.collected := rfl
@[simp] theorem postResult_freeCount (p : Nat) (r : Result) (s : State) : (postResult p r s).freeCount = s.freeCount + 1 := rfl
@[simp] theorem postResult_schedule (p : Nat) (r : Result) (s : State) : (postResult p r s).schedule = s.schedule := rfl

@[simp] theorem answerRequest_params (p : Nat) (o : TxOutcome) (d : BitVec 3) (s : State) : (answerRequest p o d s).params = s.params := rfl
@[simp] theorem answerRequest_parser (p : Nat) (o : TxOutcome) (d : BitVec 3) (s : State) : (answerRequest p o d s).parser = s.parser := rfl
@[simp] theorem answerRequest_decTimer (p : Nat) (o : TxOutcome) (d : BitVec 3) (s : State) : (answerRequest p o d s).decTimer = s.decTimer := rfl
@[simp] theorem answerRequest_decActive (p : Nat) (o : TxOutcome) (d : BitVec 3) (s : State) : (answerRequest p o d s).decActive = s.decActive := rfl
@[simp] theorem answerRequest_lockOwner (p : Nat) (o : TxOutcome) (d : BitVec 3) (s : State) : (answerRequest p o d s).lockOwner = s.lockOwner := rfl
@[simp] theorem answerRequest_tphase (p : Nat) (o : TxOutcome) (d : BitVec 3) (s : State) : (answerRequest p o d s).tphase = s.tphase := rfl
@[simp] theorem answerRequest_curOp (p : Nat) (o : TxOutcome) (d : BitVec 3) (s : State) : (answerRequest p o d s).curOp = s.curOp := rfl
@[simp] theorem answerRequest_curBody (p : Nat) (o : TxOutcome) (d : BitVec 3) (s : State) : (answerRequest p o d s).curBody = s.curBody := rfl
@[simp] theorem answerRequest_curTimeout (p : Nat) (o : TxOutcome) (d : BitVec 3) (s : State) : (answerRequest p o d s).curTimeout = s.curTimeout := rfl
@[simp] theorem answerRequest_txFrame (p : Nat) (o : TxOutcome) (d : BitVec 3) (s : State) : (answerRequest p o d s).txFrame = s.txFrame := rfl
@[simp] theorem answerRequest_txIdx (p : Nat) (o : TxOutcome) (d : BitVec 3) (s : State) : (answerRequest p o d s).txIdx = s.txIdx := rfl
@[simp] theorem answerRequest_evlog (p : Nat) (o : TxOutcome) (d : BitVec 3) (s : State) : (answerRequest p o d s).evlog = s.evlog := rfl
@[simp] theorem answerRequest_rxFifo (p : Nat) (o : TxOutcome) (d : BitVec 3) (s : State) : (answerRequest p o d s).rxFifo = s.rxFifo := rfl
@[simp] theorem answerRequest_txWire (p : Nat) (o : TxOutcome) (d : BitVec 3) (s : State) : (answerRequest p o d s).txWire = s.txWire := rfl
@[simp] theorem answerRequest_xpOpen (p : Nat) (o : TxOutcome) (d : BitVec 3) (s : State) : (answerRequest p o d s).xpOpen = s.xpOpen := rfl
@[simp] theorem answerRequest_xpErr (p : Nat) (o : TxOutcome) (d : BitVec 3) (s : State) : (answerRequest p o d s).xpErr = s.xpErr := rfl
@[simp] theorem answerRequest_txDrained (p : Nat) (o : TxOutcome) (d : BitVec 3) (s : State) : (answerRequest p o d s).txDrained = s.txDrained := rfl
@[simp] theorem answerRequest_decOut (p : Nat) (o : TxOutcome) (d : BitVec 3) (s : State) : (answerRequest p o d s).decOut = s.decOut := rfl
@[simp] theorem answerRequest_decResult (p : Nat) (o : TxOutcome) (d : BitVec 3) (s : State) : (answerRequest p o d s).decResult = s.decResult := rfl
@[simp] theorem answerRequest_encOut (p : Nat) (o : TxOutcome) (d : BitVec 3) (s : State) : (answerRequest p o d s).encOut = s.encOut := rfl
@[simp] theorem answerRequest_crcOut (p : Nat) (o : TxOutcome) (d : BitVec 3) (s : State) : (answerRequest p o d s).crcOut = s.crcOut := rfl
@[simp] theorem answerRequest_collected (p : Nat) (o : TxOutcome) (d : BitVec 3) (s : State) : (answerRequest p o d s).collected = s.collected := rfl
@[simp] theorem answerRequest_freeCount (p : Nat) (o : TxOutcome) (d : BitVec 3) (s : State) : (answerRequest p o d s).freeCount = s.freeCount + 1 := rfl
@[simp] theorem answerRequest_schedule (p : Nat) (o : TxOutcome) (d : BitVec 3) (s : State) : (answerRequest p o d s).schedule = s.schedule := rfl

@[simp] theorem releaseLock_params (s : State) : (releaseLock s).params = s.params := rfl
@[simp] theorem releaseLock_parser (s : State) : (releaseLock s).parser = s.parser := rfl
@[simp] theorem releaseLock_decTimer (s : State) : (releaseLock s).decTimer = s.decTimer := rfl
@[simp] theorem releaseLock_decActive (s : State) : (releaseLock s).decActive = s.decActive := rfl
@[simp] theorem releaseLock_lockOwner (s : State) : (releaseLock s).lockOwner = none := rfl
@[simp] theorem releaseLock_tphase (s : State) : (releaseLock s).tphase = .idle := rfl
@[simp] theorem releaseLock_curOp (s : State) : (releaseLock s).curOp = s.curOp := rfl
@[simp] theorem releaseLock_curBody (s : State) : (releaseLock s).curBody = s.curBody := rfl
@[simp] theorem releaseLock_curTimeout (s : State) : (releaseLock s).curTimeout = s.curTimeout := rfl
@[simp] theorem releaseLock_txFrame (s : State) : (releaseLock s).txFrame = s.txFrame := rfl
@[simp] theorem releaseLock_txIdx (s : State) : (releaseLock s).txIdx = s.txIdx := rfl
@[simp] theorem releaseLock_ports (s : State) : (releaseLock s).ports = s.ports := rfl
@[simp] theorem releaseLock_evlog (s : State) : (releaseLock s).evlog = s.evlog := rfl
@[simp] theorem releaseLock_rxFifo (s : State) : (releaseLock s).rxFifo = s.rxFifo := rfl
@[simp] theorem releaseLock_txWire (s : State) : (releaseLock s).txWire = s.txWire := rfl
@[simp] theorem releaseLock_xpOpen (s : State) : (releaseLock s).xpOpen = s.xpOpen := rfl
@[simp] theorem releaseLock_xpErr (s : State) : (releaseLock s).xpErr = s.xpErr := rfl
@[simp] theorem releaseLock_txDrained (s : State) : (releaseLock s).txDrained = s.txDrained := rfl
@[simp] theorem releaseLock_decOut (s : State) : (releaseLock s).decOut = s.decOut := rfl
@[simp] theorem releaseLock_decResult (s : State) : (releaseLock s).decResult = s.decResult := rfl
@[simp] theorem releaseLock_encOut (s : State) : (releaseLock s).encOut = s.encOut := rfl
@[simp] theorem releaseLock_crcOut (s : State) : (releaseLock s).crcOut = s.crcOut := rfl
@[simp] theorem releaseLock_collected (s : State) : (releaseLock s).collected = s.collected := rfl
@[simp] theorem releaseLock_freeCount (s : State) : (releaseLock s).freeCount = s.freeCount := rfl
@[simp] theorem releaseLock_schedule (s : State) : (releaseLock s).schedule = s.schedule := rfl

@[simp] theorem decodeEnd_params (d : DecodeResult) (s : State) : (decodeEnd d s).params = s.params := rfl
@[simp] theorem decodeEnd_parser (d : DecodeResult) (s : State) : (decodeEnd d s).parser = s.parser := rfl
@[simp] theorem decodeEnd_decTimer (d : DecodeResult) (s : State) : (decodeEnd d s).decTimer = s.decTimer := rfl
@[simp] theorem decodeEnd_decActive (d : DecodeResult) (s : State) : (decodeEnd d s).decActive = false := rfl
@[simp] theorem decodeEnd_lockOwner (d : DecodeResult) (s : State) : (decodeEnd d s).lockOwner = s.lockOwner := rfl
@[simp] theorem decodeEnd_tphase (d : DecodeResult) (s : State) : (decodeEnd d s).tphase = s.tphase := rfl
@[simp] theorem decodeEnd_curOp (d : DecodeResult) (s : State) : (decodeEnd d s).curOp = s.curOp := rfl
@[simp] theorem decodeEnd_curBody (d : DecodeResult) (s : State) : (decodeEnd d s).curBody = s.curBody := rfl
@[simp] theorem decodeEnd_curTimeout (d : DecodeResult) (s : State) : (decodeEnd d s).curTimeout = s.curTimeout := rfl
@[simp] theorem decodeEnd_txFrame (d : DecodeResult) (s : State) : (decodeEnd d s).txFrame = s.txFrame := rfl
@[simp] theorem decodeEnd_txIdx (d : DecodeResult) (s : State) : (decodeEnd d s).txIdx = s.txIdx := rfl
@[simp] theorem decodeEnd_ports (d : DecodeResult) (s : State) : (decodeEnd d s).ports = s.ports := rfl
@[simp] theorem decodeEnd_evlog (d : DecodeResult) (s : State) : (decodeEnd d s).evlog = s.evlog := rfl
@[simp] theorem decodeEnd_rxFifo (d : DecodeResult) (s : State) : (decodeEnd d s).rxFifo = s.rxFifo := rfl
@[simp] theorem decodeEnd_txWire (d : DecodeResult) (s : State) : (decodeEnd d s).txWire = s.txWire := rfl
@[simp] theorem decodeEnd_xpOpen (d : DecodeResult) (s : State) : (decodeEnd d s).xpOpen = s.xpOpen := rfl
@[simp] theorem decodeEnd_xpErr (d : DecodeResult) (s : State) : (decodeEnd d s).xpErr = s.xpErr := rfl
@[simp] theorem decodeEnd_txDrained (d : DecodeResult) (s : State) : (decodeEnd d s).txDrained = s.txDrained := rfl
@[simp] theorem decodeEnd_decOut (d : DecodeResult) (s : State) : (decodeEnd d s).decOut = s.decOut := rfl
@[simp] theorem decodeEnd_decResult (d : DecodeResult) (s : State) : (decodeEnd d s).decResult = some d := rfl
@[simp] theorem decodeEnd_encOut (d : DecodeResult) (s : State) : (decodeEnd d s).encOut = s.encOut := rfl
@[simp] theorem decodeEnd_crcOut (d : DecodeResult) (s : State) : (decodeEnd d s).crcOut = s.crcOut := rfl
@[simp] theorem decodeEnd_collected (d : DecodeResult) (s : State) : (decodeEnd d s).collected = s.collected := rfl
@[simp] theorem decodeEnd_freeCount (d : DecodeResult) (s : State) : (decodeEnd d s).freeCount = s.freeCount := rfl
@[simp] theorem decodeEnd_schedule (d : DecodeResult) (s : State) : (decodeEnd d s).schedule = s.schedule := rfl

@[simp] theorem decodeStart_params (n : Nat) (s : State) : (decodeStart n s).params = s.params := rfl
@[simp] theorem decodeStart_parser (n : Nat) (s : State) : (decodeStart n s).parser = Parser.empty := rfl
@[simp] theorem decodeStart_decTimer (n : Nat) (s : State) : (decodeStart n s).decTimer = n := rfl
@[simp] theorem decodeStart_decActive (n : Nat) (s : State) : (decodeStart n s).decActive = true := rfl
@[simp] theorem decodeStart_lockOwner (n : Nat) (s : State) : (decodeStart n s).lockOwner = s.lockOwner := rfl
@[simp] theorem decodeStart_tphase (n : Nat) (s : State) : (decodeStart n s).tphase = s.tphase := rfl
@[simp] theorem decodeStart_curOp (n : Nat) (s : State) : (decodeStart n s).curOp = s.curOp := rfl
@[simp] theorem decodeStart_curBody (n : Nat) (s : State) : (decodeStart n s).curBody = s.curBody := rfl
@[simp] theorem decodeStart_curTimeout (n : Nat) (s : State) : (decodeStart n s).curTimeout = s.curTimeout := rfl
@[simp] theorem decodeStart_txFrame (n : Nat) (s : State) : (decodeStart n s).txFrame = s.txFrame := rfl
@[simp] theorem decodeStart_txIdx (n : Nat) (s : State) : (decodeStart n s).txIdx = s.txIdx := rfl
@[simp] theorem decodeStart_ports (n : Nat) (s : State) : (decodeStart n s).ports = s.ports := rfl
@[simp] theorem decodeStart_evlog (n : Nat) (s : State) : (decodeStart n s).evlog = s.evlog := rfl
@[simp] theorem decodeStart_rxFifo (n : Nat) (s : State) : (decodeStart n s).rxFifo = s.rxFifo := rfl
@[simp] theorem decodeStart_txWire (n : Nat) (s : State) : (decodeStart n s).txWire = s.txWire := rfl
@[simp] theorem decodeStart_xpOpen (n : Nat) (s : State) : (decodeStart n s).xpOpen = s.xpOpen := rfl
@[simp] theorem decodeStart_xpErr (n : Nat) (s : State) : (decodeStart n s).xpErr = s.xpErr := rfl
@[simp] theorem decodeStart_txDrained (n : Nat) (s : State) : (decodeStart n s).txDrained = s.txDrained := rfl
@[simp] theorem decodeStart_decOut (n : Nat) (s : State) : (decodeStart n s).decOut = s.decOut := rfl
@[simp] theorem decodeStart_decResult (n : Nat) (s : State) : (decodeStart n s).decResult = s.decResult := rfl
@[simp] theorem decodeStart_encOut (n : Nat) (s : State) : (decodeStart n s).encOut = s.encOut := rfl
@[simp] theorem decodeStart_crcOut (n : Nat) (s : State) : (decodeStart n s).crcOut = s.crcOut := rfl
@[simp] theorem decodeStart_collected (n : Nat) (s : State) : (decodeStart n s).collected = s.collected := rfl
@[simp] theorem decodeStart_freeCount (n : Nat) (s : State) : (decodeStart n s).freeCount = s.freeCount := rfl
@[simp] theorem decodeStart_schedule (n : Nat) (s : State) : (decodeStart n s).schedule = s.schedule := rfl

@[simp] theorem acquire_params (op : HostOp) (p : Nat) (body : Bytes) (n : Nat) (s : State) : (acquire op p body n s).params = s.params := rfl
@[simp] theorem acquire_parser (op : HostOp) (p : Nat) (body : Bytes) (n : Nat) (s : State) : (acquire op p body n s).parser = s.parser := rfl
@[simp] theorem acquire_decTimer (op : HostOp) (p : Nat) (body : Bytes) (n : Nat) (s : State) : (acquire op p body n s).decTimer = s.decTimer := rfl
@[simp] theorem acquire_decActive (op : HostOp) (p : Nat) (body : Bytes) (n : Nat) (s : State) : (acquire op p body n s).decActive = s.decActive := rfl
@[simp] theorem acquire_lockOwner (op : HostOp) (p : Nat) (body : Bytes) (n : Nat) (s : State) : (acquire op p body n s).lockOwner = some p := rfl
@[simp] theorem acquire_tphase (op : HostOp) (p : Nat) (body : Bytes) (n : Nat) (s : State) : (acquire op p body n s).tphase = .flush := rfl
@[simp] theorem acquire_curOp (op : HostOp) (p : Nat) (body : Bytes) (n : Nat) (s : State) : (acquire op p body n s).curOp = op := rfl
@[simp] theorem acquire_curBody (op : HostOp) (p : Nat) (body : Bytes) (n : Nat) (s : State) : (acquire op p body n s).curBody = body := rfl
@[simp] theorem acquire_curTimeout (op : HostOp) (p : Nat) (body : Bytes) (n : Nat) (s : State) : (acquire op p body n s).curTimeout = n := rfl
@[simp] theorem acquire_txFrame (op : HostOp) (p : Nat) (body : Bytes) (n : Nat) (s : State) : (acquire op p body n s).txFrame = s.txFrame := rfl
@[simp] theorem acquire_txIdx (op : HostOp) (p : Nat) (body : Bytes) (n : Nat) (s : State) : (acquire op p body n s).txIdx = s.txIdx := rfl
@[simp] theorem acquire_ports (op : HostOp) (p : Nat) (body : Bytes) (n : Nat) (s : State) : (acquire op p body n s).ports = s.ports.modify p (fun q => { q with reqValid := false }) := rfl
@[simp] theorem acquire_evlog (op : HostOp) (p : Nat) (body : Bytes) (n : Nat) (s : State) : (acquire op p body n s).evlog = s.evlog := rfl
@[simp] theorem acquire_rxFifo (op : HostOp) (p : Nat) (body : Bytes) (n : Nat) (s : State) : (acquire op p body n s).rxFifo = s.rxFifo := rfl
@[simp] theorem acquire_txWire (op : HostOp) (p : Nat) (body : Bytes) (n : Nat) (s : State) : (acquire op p body n s).txWire = s.txWire := rfl
@[simp] theorem acquire_xpOpen (op : HostOp) (p : Nat) (body : Bytes) (n : Nat) (s : State) : (acquire op p body n s).xpOpen = s.xpOpen := rfl
@[simp] theorem acquire_xpErr (op : HostOp) (p : Nat) (body : Bytes) (n : Nat) (s : State) : (acquire op p body n s).xpErr = s.xpErr := rfl
@[simp] theorem acquire_txDrained (op : HostOp) (p : Nat) (body : Bytes) (n : Nat) (s : State) : (acquire op p body n s).txDrained = s.txDrained := rfl
@[simp] theorem acquire_decOut (op : HostOp) (p : Nat) (body : Bytes) (n : Nat) (s : State) : (acquire op p body n s).decOut = s.decOut := rfl
@[simp] theorem acquire_decResult (op : HostOp) (p : Nat) (body : Bytes) (n : Nat) (s : State) : (acquire op p body n s).decResult = s.decResult := rfl
@[simp] theorem acquire_encOut (op : HostOp) (p : Nat) (body : Bytes) (n : Nat) (s : State) : (acquire op p body n s).encOut = s.encOut := rfl
@[simp] theorem acquire_crcOut (op : HostOp) (p : Nat) (body : Bytes) (n : Nat) (s : State) : (acquire op p body n s).crcOut = s.crcOut := rfl
@[simp] theorem acquire_collected (op : HostOp) (p : Nat) (body : Bytes) (n : Nat) (s : State) : (acquire op p body n s).collected = s.collected := rfl
@[simp] theorem acquire_freeCount (op : HostOp) (p : Nat) (body : Bytes) (n : Nat) (s : State) : (acquire op p body n s).freeCount = s.freeCount := rfl
@[simp] theorem acquire_schedule (op : HostOp) (p : Nat) (body : Bytes) (n : Nat) (s : State) : (acquire op p body n s).schedule = s.schedule := rfl

@[simp] theorem grantHold_params (p : Nat) (s : State) : (grantHold p s).params = s.params := rfl
@[simp] theorem grantHold_parser (p : Nat) (s : State) : (grantHold p s).parser = s.parser := rfl
@[simp] theorem grantHold_decTimer (p : Nat) (s : State) : (grantHold p s).decTimer = s.decTimer := rfl
@[simp] theorem grantHold_decActive (p : Nat) (s : State) : (grantHold p s).decActive = s.decActive := rfl
@[simp] theorem grantHold_lockOwner (p : Nat) (s : State) : (grantHold p s).lockOwner = some p := rfl
@[simp] theorem grantHold_tphase (p : Nat) (s : State) : (grantHold p s).tphase = .excl := rfl
@[simp] theorem grantHold_curOp (p : Nat) (s : State) : (grantHold p s).curOp = .excl := rfl
@[simp] theorem grantHold_curBody (p : Nat) (s : State) : (grantHold p s).curBody = s.curBody := rfl
@[simp] theorem grantHold_curTimeout (p : Nat) (s : State) : (grantHold p s).curTimeout = s.curTimeout := rfl
@[simp] theorem grantHold_txFrame (p : Nat) (s : State) : (grantHold p s).txFrame = s.txFrame := rfl
@[simp] theorem grantHold_txIdx (p : Nat) (s : State) : (grantHold p s).txIdx = s.txIdx := rfl
@[simp] theorem grantHold_evlog (p : Nat) (s : State) : (grantHold p s).evlog = s.evlog := rfl
@[simp] theorem grantHold_rxFifo (p : Nat) (s : State) : (grantHold p s).rxFifo = s.rxFifo := rfl
@[simp] theorem grantHold_txWire (p : Nat) (s : State) : (grantHold p s).txWire = s.txWire := rfl
@[simp] theorem grantHold_xpOpen (p : Nat) (s : State) : (grantHold p s).xpOpen = s.xpOpen := rfl
@[simp] theorem grantHold_xpErr (p : Nat) (s : State) : (grantHold p s).xpErr = s.xpErr := rfl
@[simp] theorem grantHold_txDrained (p : Nat) (s : State) : (grantHold p s).txDrained = s.txDrained := rfl
@[simp] theorem grantHold_decOut (p : Nat) (s : State) : (grantHold p s).decOut = s.decOut := rfl
@[simp] theorem grantHold_decResult (p : Nat) (s : State) : (grantHold p s).decResult = s.decResult := rfl
@[simp] theorem grantHold_encOut (p : Nat) (s : State) : (grantHold p s).encOut = s.encOut := rfl
@[simp] theorem grantHold_crcOut (p : Nat) (s : State) : (grantHold p s).crcOut = s.crcOut := rfl
@[simp] theorem grantHold_collected (p : Nat) (s : State) : (grantHold p s).collected = s.collected := rfl
@[simp] theorem grantHold_freeCount (p : Nat) (s : State) : (grantHold p s).freeCount = s.freeCount + 1 := rfl
@[simp] theorem grantHold_schedule (p : Nat) (s : State) : (grantHold p s).schedule = s.schedule := rfl

@[simp] theorem scheduled_params (m : Move) (s : State) : (scheduled m s).params = s.params := rfl
@[simp] theorem scheduled_parser (m : Move) (s : State) : (scheduled m s).parser = s.parser := rfl
@[simp] theorem scheduled_decTimer (m : Move) (s : State) : (scheduled m s).decTimer = s.decTimer := rfl
@[simp] theorem scheduled_decActive (m : Move) (s : State) : (scheduled m s).decActive = s.decActive := rfl
@[simp] theorem scheduled_lockOwner (m : Move) (s : State) : (scheduled m s).lockOwner = s.lockOwner := rfl
@[simp] theorem scheduled_tphase (m : Move) (s : State) : (scheduled m s).tphase = s.tphase := rfl
@[simp] theorem scheduled_curOp (m : Move) (s : State) : (scheduled m s).curOp = s.curOp := rfl
@[simp] theorem scheduled_curBody (m : Move) (s : State) : (scheduled m s).curBody = s.curBody := rfl
@[simp] theorem scheduled_curTimeout (m : Move) (s : State) : (scheduled m s).curTimeout = s.curTimeout := rfl
@[simp] theorem scheduled_txFrame (m : Move) (s : State) : (scheduled m s).txFrame = s.txFrame := rfl
@[simp] theorem scheduled_txIdx (m : Move) (s : State) : (scheduled m s).txIdx = s.txIdx := rfl
@[simp] theorem scheduled_ports (m : Move) (s : State) : (scheduled m s).ports = s.ports := rfl
@[simp] theorem scheduled_evlog (m : Move) (s : State) : (scheduled m s).evlog = s.evlog := rfl
@[simp] theorem scheduled_rxFifo (m : Move) (s : State) : (scheduled m s).rxFifo = s.rxFifo := rfl
@[simp] theorem scheduled_txWire (m : Move) (s : State) : (scheduled m s).txWire = s.txWire := rfl
@[simp] theorem scheduled_xpOpen (m : Move) (s : State) : (scheduled m s).xpOpen = s.xpOpen := rfl
@[simp] theorem scheduled_xpErr (m : Move) (s : State) : (scheduled m s).xpErr = s.xpErr := rfl
@[simp] theorem scheduled_txDrained (m : Move) (s : State) : (scheduled m s).txDrained = s.txDrained := rfl
@[simp] theorem scheduled_decOut (m : Move) (s : State) : (scheduled m s).decOut = s.decOut := rfl
@[simp] theorem scheduled_decResult (m : Move) (s : State) : (scheduled m s).decResult = s.decResult := rfl
@[simp] theorem scheduled_encOut (m : Move) (s : State) : (scheduled m s).encOut = s.encOut := rfl
@[simp] theorem scheduled_crcOut (m : Move) (s : State) : (scheduled m s).crcOut = s.crcOut := rfl
@[simp] theorem scheduled_collected (m : Move) (s : State) : (scheduled m s).collected = s.collected := rfl
@[simp] theorem scheduled_freeCount (m : Move) (s : State) : (scheduled m s).freeCount = s.freeCount := rfl
@[simp] theorem scheduled_schedule (m : Move) (s : State) : (scheduled m s).schedule = m :: s.schedule := rfl

@[simp] theorem finish_params (r : Result) (s : State) : (finish r s).params = s.params := by
  unfold finish; cases s.lockOwner <;> rfl
@[simp] theorem finish_parser (r : Result) (s : State) : (finish r s).parser = s.parser := by
  unfold finish; cases s.lockOwner <;> rfl
@[simp] theorem finish_decTimer (r : Result) (s : State) : (finish r s).decTimer = s.decTimer := by
  unfold finish; cases s.lockOwner <;> rfl
@[simp] theorem finish_decActive (r : Result) (s : State) : (finish r s).decActive = s.decActive := by
  unfold finish; cases s.lockOwner <;> rfl
@[simp] theorem finish_lockOwner (r : Result) (s : State) : (finish r s).lockOwner = none := by
  unfold finish; cases s.lockOwner <;> rfl
@[simp] theorem finish_tphase (r : Result) (s : State) : (finish r s).tphase = .idle := by
  unfold finish; cases s.lockOwner <;> rfl
@[simp] theorem finish_curOp (r : Result) (s : State) : (finish r s).curOp = s.curOp := by
  unfold finish; cases s.lockOwner <;> rfl
@[simp] theorem finish_curBody (r : Result) (s : State) : (finish r s).curBody = s.curBody := by
  unfold finish; cases s.lockOwner <;> rfl
@[simp] theorem finish_curTimeout (r : Result) (s : State) : (finish r s).curTimeout = s.curTimeout := by
  unfold finish; cases s.lockOwner <;> rfl
@[simp] theorem finish_txFrame (r : Result) (s : State) : (finish r s).txFrame = s.txFrame := by
  unfold finish; cases s.lockOwner <;> rfl
@[simp] theorem finish_txIdx (r : Result) (s : State) : (finish r s).txIdx = s.txIdx := by
  unfold finish; cases s.lockOwner <;> rfl
@[simp] theorem finish_evlog (r : Result) (s : State) : (finish r s).evlog = s.evlog := by
  unfold finish; cases s.lockOwner <;> rfl
@[simp] theorem finish_rxFifo (r : Result) (s : State) : (finish r s).rxFifo = s.rxFifo := by
  unfold finish; cases s.lockOwner <;> rfl
@[simp] theorem finish_txWire (r : Result) (s : State) : (finish r s).txWire = s.txWire := by
  unfold finish; cases s.lockOwner <;> rfl
@[simp] theorem finish_xpOpen (r : Result) (s : State) : (finish r s).xpOpen = s.xpOpen := by
  unfold finish; cases s.lockOwner <;> rfl
@[simp] theorem finish_xpErr (r : Result) (s : State) : (finish r s).xpErr = s.xpErr := by
  unfold finish; cases s.lockOwner <;> rfl
@[simp] theorem finish_txDrained (r : Result) (s : State) : (finish r s).txDrained = s.txDrained := by
  unfold finish; cases s.lockOwner <;> rfl
@[simp] theorem finish_decOut (r : Result) (s : State) : (finish r s).decOut = s.decOut := by
  unfold finish; cases s.lockOwner <;> rfl
@[simp] theorem finish_decResult (r : Result) (s : State) : (finish r s).decResult = s.decResult := by
  unfold finish; cases s.lockOwner <;> rfl
@[simp] theorem finish_encOut (r : Result) (s : State) : (finish r s).encOut = s.encOut := by
  unfold finish; cases s.lockOwner <;> rfl
@[simp] theorem finish_crcOut (r : Result) (s : State) : (finish r s).crcOut = s.crcOut := by
  unfold finish; cases s.lockOwner <;> rfl
@[simp] theorem finish_collected (r : Result) (s : State) : (finish r s).collected = s.collected := by
  unfold finish; cases s.lockOwner <;> rfl
@[simp] theorem finish_schedule (r : Result) (s : State) : (finish r s).schedule = s.schedule := by
  unfold finish; cases s.lockOwner <;> rfl

@[simp] theorem blockReset_params (s : State) : (blockReset s).params = s.params := rfl
@[simp] theorem blockReset_parser (s : State) : (blockReset s).parser = Parser.empty := rfl
@[simp] theorem blockReset_decTimer (s : State) : (blockReset s).decTimer = 0 := rfl
@[simp] theorem blockReset_decActive (s : State) : (blockReset s).decActive = false := rfl
@[simp] theorem blockReset_lockOwner (s : State) : (blockReset s).lockOwner = none := rfl
@[simp] theorem blockReset_tphase (s : State) : (blockReset s).tphase = .idle := rfl
@[simp] theorem blockReset_curOp (s : State) : (blockReset s).curOp = .cmd := rfl
@[simp] theorem blockReset_curBody (s : State) : (blockReset s).curBody = [] := rfl
@[simp] theorem blockReset_curTimeout (s : State) : (blockReset s).curTimeout = 0 := rfl
@[simp] theorem blockReset_txFrame (s : State) : (blockReset s).txFrame = [] := rfl
@[simp] theorem blockReset_txIdx (s : State) : (blockReset s).txIdx = 0 := rfl
@[simp] theorem blockReset_ports (s : State) : (blockReset s).ports = List.replicate s.ports.length Port.afterReset := rfl
@[simp] theorem blockReset_evlog (s : State) : (blockReset s).evlog = [] := rfl
@[simp] theorem blockReset_rxFifo (s : State) : (blockReset s).rxFifo = s.rxFifo := rfl
@[simp] theorem blockReset_txWire (s : State) : (blockReset s).txWire = s.txWire := rfl
@[simp] theorem blockReset_xpOpen (s : State) : (blockReset s).xpOpen = s.xpOpen := rfl
@[simp] theorem blockReset_xpErr (s : State) : (blockReset s).xpErr = s.xpErr := rfl
@[simp] theorem blockReset_txDrained (s : State) : (blockReset s).txDrained = s.txDrained := rfl
@[simp] theorem blockReset_decOut (s : State) : (blockReset s).decOut = s.decOut := rfl
@[simp] theorem blockReset_decResult (s : State) : (blockReset s).decResult = s.decResult := rfl
@[simp] theorem blockReset_encOut (s : State) : (blockReset s).encOut = s.encOut := rfl
@[simp] theorem blockReset_crcOut (s : State) : (blockReset s).crcOut = s.crcOut := rfl
@[simp] theorem blockReset_collected (s : State) : (blockReset s).collected = s.collected := rfl
@[simp] theorem blockReset_freeCount (s : State) : (blockReset s).freeCount = s.freeCount := rfl
@[simp] theorem blockReset_schedule (s : State) : (blockReset s).schedule = s.schedule := rfl

end Sys2Proof.Laws
end

