-- ==== Sys2Proof/Laws/Ops.lean ====
section
/-! SUPPORT. For each shared operation one lemma that says once everything it can do; proofs cite these
instead of unfolding the operation. -/

namespace Sys2Proof.Laws

open Sys2Proof.Machine

/-- A decoder step answers its next state in its own parser state. -/
@[simp] theorem inPState_of_pstate {st : PState} {s : State} (h : s.parser.pstate = st) (n : State) :
    inPState st s n = .next n := if_pos h

/-- In any other parser state it is refused by name. -/
theorem inPState_of_ne {st : PState} {s : State} (h : s.parser.pstate ≠ st) (n : State) :
    inPState st s n = .refused .otherParserState := if_neg h

/-- All a decoder step can answer as a next state. -/
theorem inPState_eq_next_iff {st : PState} {s n t : State} :
    inPState st s n = .next t ↔ s.parser.pstate = st ∧ t = n := by
  unfold inPState
  split <;> simp_all [eq_comm]

/-- A host operation on one of the block's ports answers its next state. -/
@[simp] theorem onPort_of_lt {p : Nat} {s : State} (h : p < s.ports.length) (n : State) :
    onPort p s n = .next n := if_pos h

/-- On any other port it is refused by name. -/
theorem onPort_of_not_lt {p : Nat} {s : State} (h : ¬ p < s.ports.length) (n : State) :
    onPort p s n = .refused .noSuchPort := if_neg h

/-- All a host operation can answer as a next state. -/
theorem onPort_eq_next_iff {p : Nat} {s n t : State} :
    onPort p s n = .next t ↔ p < s.ports.length ∧ t = n := by
  unfold onPort
  split <;> simp_all [eq_comm]

/-- All a request for the lock can do: the holder is refused, a free lock lets it go on, a held lock makes
it wait. -/
theorem requestLock_cases (p : Nat) (g : State → State) (s : State) :
    (holds p s = true ∧ requestLock p g s = answerRequest p .refused diagHolding s) ∨
    (holds p s = false ∧ s.lockOwner = none ∧ requestLock p g s = g s) ∨
    (holds p s = false ∧ s.lockOwner ≠ none ∧ requestLock p g s = s) := by
  unfold requestLock
  by_cases h : holds p s = true
  · exact .inl ⟨h, by simp [h]⟩
  · by_cases hn : s.lockOwner = none
    · exact .inr (.inl ⟨by simpa using h, hn, by simp [h, hn]⟩)
    · exact .inr (.inr ⟨by simpa using h, hn, by simp [h, hn]⟩)

/-- All a granted `CMD` or `CMD_NR` can do (R187, R189, R190). -/
theorem startTransaction_cases (op : HostOp) (p : Nat) (body : Bytes) (n : Nat) (s : State) :
    (bodyTooLong s.params body = true ∧
      startTransaction op p body n s = answerRequest p .refused diagBodyTooLong s) ∨
    (bodyTooLong s.params body = false ∧ s.xpOpen = true ∧
      startTransaction op p body n s = acquire op p body n s) ∨
    (bodyTooLong s.params body = false ∧ s.xpOpen = false ∧
      startTransaction op p body n s = answerRequest p .transportError diagNotOpen s) := by
  unfold startTransaction
  by_cases h : bodyTooLong s.params body = true
  · exact .inl ⟨h, by simp [h]⟩
  · by_cases ho : s.xpOpen = true
    · exact .inr (.inl ⟨by simpa using h, ho, by simp [h, ho]⟩)
    · exact .inr (.inr ⟨by simpa using h, by simpa using ho, by simp [h, ho]⟩)

/-- What `Finish` does for the lock's owner (R205). -/
theorem finish_of_owner {s : State} {p : Nat} (h : s.lockOwner = some p) (r : Result) :
    finish r s = releaseLock (postResult p r s) := by
  simp [finish, h]

/-- `Finish` writes the owner's port and no other. -/
theorem finish_ports_of_owner {s : State} {p : Nat} (h : s.lockOwner = some p) (r : Result) :
    (finish r s).ports = s.ports.modify p (fun q => { q with res := r, resValid := true }) := by
  simp [finish_of_owner h]

/-- The number of ports never changes. -/
@[simp] theorem finish_ports_length (r : Result) (s : State) :
    (finish r s).ports.length = s.ports.length := by
  unfold finish
  cases s.lockOwner <;> simp

/-- A port other than the one modified keeps its records. -/
theorem portAt_modifyPort_ne {p p' : Nat} (h : p ≠ p') (f : Port → Port) (s : State) :
    portAt p' (modifyPort p f s) = portAt p' s := by
  simp [portAt, modifyPort, h]

/-- The port modified holds what the modification gives. -/
theorem portAt_modifyPort_self (p : Nat) (f : Port → Port) (s : State) :
    portAt p (modifyPort p f s) = (portAt p s).map f := by
  simp [portAt, modifyPort]

/-- All a `HostPost` can do (R185). -/
theorem hostPost_cases (p : Nat) (op : BitVec 2) (body : Bytes) (n : Nat) (s : State) :
    (canPost p s = true ∧ s.params.timeoutFits n = true ∧ hostPost p op body n s =
      modifyPort p (fun q => { q with req := { op := op, body := body, timeout := n }, reqValid := true }) s) ∨
    (¬ (canPost p s = true ∧ s.params.timeoutFits n = true) ∧ hostPost p op body n s = s) := by
  unfold hostPost
  by_cases h : canPost p s = true ∧ s.params.timeoutFits n = true
  · exact .inl ⟨h.1, h.2, if_pos h⟩
  · exact .inr ⟨h, if_neg h⟩

/-- All a `HostCollect` can do (R186). -/
theorem hostCollect_cases (p : Nat) (s : State) :
    (∃ q, portAt p s = some q ∧ q.resValid = true ∧ hostCollect p s =
      { modifyPort p (fun q => { q with resValid := false }) s with collected := some (p, q.res) }) ∨
    (resValid p s = false ∧ hostCollect p s = s) := by
  unfold hostCollect resValid
  cases hq : portAt p s with
  | none => exact .inr ⟨rfl, rfl⟩
  | some q =>
    by_cases h : q.resValid = true
    · exact .inl ⟨q, rfl, h, by simp [h]⟩
    · exact .inr ⟨by simpa using h, by simp [h]⟩

/-- All a `Tick` can do (R172). -/
theorem tick_cases (s : State) :
    (s.decActive = true ∧ 0 < s.decTimer ∧ tick s = { s with decTimer := s.decTimer - 1 }) ∨
    (¬ (s.decActive = true ∧ 0 < s.decTimer) ∧ tick s = s) := by
  unfold tick
  by_cases h : s.decActive = true ∧ 0 < s.decTimer
  · exact .inl ⟨h.1, h.2, if_pos h⟩
  · exact .inr ⟨h, if_neg h⟩

/-- All the completion step can do (R156). -/
theorem complete_cases (s : State) :
    (crcMatch s.parser.bodyBuf s.parser.crcBuf = true ∧ complete s =
      setOut (.frame s.parser.hdrBuf s.parser.bodyBuf)
        (parserReset (emit (.frameOk s.parser.hdrBuf s.parser.bodyBuf) s))) ∨
    (crcMatch s.parser.bodyBuf s.parser.crcBuf = false ∧ complete s =
      setOut .crcFail (parserReset (emit (.crcMismatch (crc32 s.parser.bodyBuf) s.parser.crcBuf) s))) := by
  unfold complete
  by_cases h : crcMatch s.parser.bodyBuf s.parser.crcBuf = true
  · exact .inl ⟨h, if_pos h⟩
  · exact .inr ⟨by simpa using h, if_neg h⟩

/-- A byte pushed by `SendByte` (R193). -/
theorem sendByte_of_byte {s : State} {b : Byte} (h : s.txFrame[s.txIdx]? = some b) :
    sendByte s =
      { txPush b s with
        txIdx := s.txIdx + 1,
        tphase := if s.txIdx + 1 = s.txFrame.length then .drain else s.tphase } := by
  simp [sendByte, h]

/-- Going on from a next state. -/
@[simp] theorem andThen_next (s : State) (k : State → Answer) : andThen (.next s) k = k s := rfl

/-- All that going on can answer as a next state. -/
theorem andThen_eq_next_iff {a : Answer} {k : State → Answer} {t : State} :
    andThen a k = .next t ↔ ∃ s, a = .next s ∧ k s = .next t := by
  cases a <;> simp [andThen]

/-- A step makes the next move of the schedule. -/
theorem step_of_move {s : State} {m : Move} {rest : List Move} (hc : configOk s = true)
    (hs : s.schedule = m :: rest) : step s = applyMove m { s with schedule := rest } := by
  simp [step, runStep, hc, hs]

/-- With no move to come nothing happens. -/
theorem step_of_nil {s : State} (hc : configOk s = true) (hs : s.schedule = []) : step s = .next s := by
  simp [step, runStep, hc, hs]

/-- All a step can do that answers a next state. -/
theorem step_eq_next_iff {s t : State} :
    step s = .next t ↔ configOk s = true ∧
      ((s.schedule = [] ∧ t = s) ∨
       ∃ m rest, s.schedule = m :: rest ∧ applyMove m { s with schedule := rest } = .next t) := by
  unfold step runStep
  by_cases hc : configOk s = true
  · cases hs : s.schedule <;> simp [hc, eq_comm]
  · simp [hc]

/-- A run goes on from its first step. -/
theorem run_succ {k : Nat} {s t : State} (h : step s = .next t) :
    Host.Core.run Sys2Proof.core (k + 1) s = Host.Core.run Sys2Proof.core k t := by
  have general : ∀ (c : Host.Core) (a b : c.State), c.step a = .next b →
      Host.Core.run c (k + 1) a = Host.Core.run c k b := fun c a b e => by
    simp only [Host.Core.run, e]
  exact general Sys2Proof.core s t h

/-- A run of no steps. -/
@[simp] theorem run_zero (s : State) : Host.Core.run Sys2Proof.core 0 s = .next s := rfl

end Sys2Proof.Laws
end

