-- ==== Sys2Proof/Laws/PerInstr.lean ====
section
/-! SUPPORT. The family `RowWord`: the word the encoder writes for an instruction is selected by that
instruction's row of spec/opcode_table.json, its `match` and `mask` written out here once more. -/

namespace Sys2Proof.Laws

/-- The `mask` and `match` of an instruction's row, as the table prints them; `none` for a row that is
not a received byte. -/
def rowMaskMatch : Instr → Option (Byte × Byte)
  | .idleSkip_00_00 => some (0xFF, 0x00)
  | .idleSkip_02_03 _ => some (0xFE, 0x02)
  | .idleSkip_04_07 _ => some (0xFC, 0x04)
  | .idleSkip_08_0F _ => some (0xF8, 0x08)
  | .idleSkip_10_1F _ => some (0xF0, 0x10)
  | .idleSkip_20_3F _ => some (0xE0, 0x20)
  | .idleSkip_40_7F _ => some (0xC0, 0x40)
  | .idleSkip_80_FF _ => some (0x80, 0x80)
  | .idleSoh => some (0xFF, 0x01)
  | .hdrOther_00_00 => some (0xFF, 0x00)
  | .hdrOther_05_05 => some (0xFF, 0x05)
  | .hdrOther_06_07 _ => some (0xFE, 0x06)
  | .hdrOther_08_0F _ => some (0xF8, 0x08)
  | .hdrOther_10_1F _ => some (0xF0, 0x10)
  | .hdrOther_FF_FF => some (0xFF, 0xFF)
  | .hdrSoh => some (0xFF, 0x01)
  | .hdrStx => some (0xFF, 0x02)
  | .hdrEtx => some (0xFF, 0x03)
  | .hdrEot => some (0xFF, 0x04)
  | .hdrPrint_20_3F _ => some (0xE0, 0x20)
  | .hdrPrint_40_7F _ => some (0xC0, 0x40)
  | .hdrPrint_80_BF _ => some (0xC0, 0x80)
  | .hdrPrint_C0_DF _ => some (0xE0, 0xC0)
  | .hdrPrint_E0_EF _ => some (0xF0, 0xE0)
  | .hdrPrint_F0_F7 _ => some (0xF8, 0xF0)
  | .hdrPrint_F8_FB _ => some (0xFC, 0xF8)
  | .hdrPrint_FC_FD _ => some (0xFE, 0xFC)
  | .hdrPrint_FE_FE => some (0xFF, 0xFE)
  | .bodyOther_00_00 => some (0xFF, 0x00)
  | .bodyOther_05_05 => some (0xFF, 0x05)
  | .bodyOther_06_07 _ => some (0xFE, 0x06)
  | .bodyOther_08_0F _ => some (0xF8, 0x08)
  | .bodyOther_10_1F _ => some (0xF0, 0x10)
  | .bodyOther_FF_FF => some (0xFF, 0xFF)
  | .bodySoh => some (0xFF, 0x01)
  | .bodyStx => some (0xFF, 0x02)
  | .bodyEtx => some (0xFF, 0x03)
  | .bodyEot => some (0xFF, 0x04)
  | .bodyPrint_20_3F _ => some (0xE0, 0x20)
  | .bodyPrint_40_7F _ => some (0xC0, 0x40)
  | .bodyPrint_80_BF _ => some (0xC0, 0x80)
  | .bodyPrint_C0_DF _ => some (0xE0, 0xC0)
  | .bodyPrint_E0_EF _ => some (0xF0, 0xE0)
  | .bodyPrint_F0_F7 _ => some (0xF8, 0xF0)
  | .bodyPrint_F8_FB _ => some (0xFC, 0xF8)
  | .bodyPrint_FC_FD _ => some (0xFE, 0xFC)
  | .bodyPrint_FE_FE => some (0xFF, 0xFE)
  | .crcNonhex_00_00 => some (0xFF, 0x00)
  | .crcNonhex_05_05 => some (0xFF, 0x05)
  | .crcNonhex_06_07 _ => some (0xFE, 0x06)
  | .crcNonhex_08_0F _ => some (0xF8, 0x08)
  | .crcNonhex_10_1F _ => some (0xF0, 0x10)
  | .crcNonhex_20_2F _ => some (0xF0, 0x20)
  | .crcNonhex_3A_3B _ => some (0xFE, 0x3A)
  | .crcNonhex_3C_3F _ => some (0xFC, 0x3C)
  | .crcNonhex_40_40 => some (0xFF, 0x40)
  | .crcNonhex_47_47 => some (0xFF, 0x47)
  | .crcNonhex_48_4F _ => some (0xF8, 0x48)
  | .crcNonhex_50_5F _ => some (0xF0, 0x50)
  | .crcNonhex_60_60 => some (0xFF, 0x60)
  | .crcNonhex_67_67 => some (0xFF, 0x67)
  | .crcNonhex_68_6F _ => some (0xF8, 0x68)
  | .crcNonhex_70_7F _ => some (0xF0, 0x70)
  | .crcNonhex_80_FF _ => some (0x80, 0x80)
  | .crcSoh => some (0xFF, 0x01)
  | .crcStx => some (0xFF, 0x02)
  | .crcEtx => some (0xFF, 0x03)
  | .crcEot => some (0xFF, 0x04)
  | .crcHex_30_37 _ => some (0xF8, 0x30)
  | .crcHex_38_39 _ => some (0xFE, 0x38)
  | .crcHex_41_41 => some (0xFF, 0x41)
  | .crcHex_42_43 _ => some (0xFE, 0x42)
  | .crcHex_44_45 _ => some (0xFE, 0x44)
  | .crcHex_46_46 => some (0xFF, 0x46)
  | .crcHex_61_61 => some (0xFF, 0x61)
  | .crcHex_62_63 _ => some (0xFE, 0x62)
  | .crcHex_64_65 _ => some (0xFE, 0x64)
  | .crcHex_66_66 => some (0xFF, 0x66)
  | .cmd _ _ _ => none
  | .cmdNr _ _ _ => none
  | .excl _ => none
  | .release _ => none
  | .headerCmd => none
  | .headerResp _ => none
  | .headerErr _ => none
  | .encode _ _ => none
  | .crc32 _ => none
  | .decode _ => none

/-- A received byte selects its row: `(b & mask) = match` (R103 (a)). A host operation's code and a
header's bytes are the row's. -/
def RowWord.Statement (i : Instr) : Prop :=
  match encode i with
  | some (.rx _ b) => ∃ m, rowMaskMatch i = some m ∧ b &&& m.1 = m.2
  | some (.req _ op _ _) => HostOp.ofCode op = .cmd ∨ HostOp.ofCode op = .cmdNr ∨ HostOp.ofCode op = .excl ∨ HostOp.ofCode op = .release
  | some (.sentHeader h) => h = [0x43, 0x4D, 0x44]
  | some (.rxHeader h _) => h = [0x52, 0x45, 0x53, 0x50] ∨ h = [0x45, 0x52, 0x52]
  | none => rowMaskMatch i = none

end Sys2Proof.Laws

namespace Sys2Proof.Laws

/-- The bits below a row's `match` do not touch the bits its mask selects. -/
theorem rowByte_and_mask {k : Nat} (base mask : Byte) (x : BitVec k) (hb : base &&& mask = base)
    (hm : (x.setWidth 8 : Byte) &&& mask = 0) : rowByte base x &&& mask = base := by
  simp only [rowByte]
  rw [BitVec.and_comm, BitVec.and_or_distrib_left, BitVec.and_comm mask, BitVec.and_comm mask, hb, hm]
  simp

theorem RowWord.idleSkip_00_00 : RowWord.Statement .idleSkip_00_00 := ⟨(0xFF, 0x00), rfl, rfl⟩

theorem RowWord.idleSkip_02_03 (x : BitVec 1) : RowWord.Statement (.idleSkip_02_03 x) :=
  ⟨(0xFE, 0x02), rfl, rowByte_and_mask _ _ x rfl (by revert x; decide)⟩

theorem RowWord.idleSkip_04_07 (x : BitVec 2) : RowWord.Statement (.idleSkip_04_07 x) :=
  ⟨(0xFC, 0x04), rfl, rowByte_and_mask _ _ x rfl (by revert x; decide)⟩

theorem RowWord.idleSkip_08_0F (x : BitVec 3) : RowWord.Statement (.idleSkip_08_0F x) :=
  ⟨(0xF8, 0x08), rfl, rowByte_and_mask _ _ x rfl (by revert x; decide)⟩

theorem RowWord.idleSkip_10_1F (x : BitVec 4) : RowWord.Statement (.idleSkip_10_1F x) :=
  ⟨(0xF0, 0x10), rfl, rowByte_and_mask _ _ x rfl (by revert x; decide)⟩

theorem RowWord.idleSkip_20_3F (x : BitVec 5) : RowWord.Statement (.idleSkip_20_3F x) :=
  ⟨(0xE0, 0x20), rfl, rowByte_and_mask _ _ x rfl (by revert x; decide)⟩

theorem RowWord.idleSkip_40_7F (x : BitVec 6) : RowWord.Statement (.idleSkip_40_7F x) :=
  ⟨(0xC0, 0x40), rfl, rowByte_and_mask _ _ x rfl (by revert x; decide)⟩

theorem RowWord.idleSkip_80_FF (x : BitVec 7) : RowWord.Statement (.idleSkip_80_FF x) :=
  ⟨(0x80, 0x80), rfl, rowByte_and_mask _ _ x rfl (by revert x; decide)⟩

theorem RowWord.idleSoh : RowWord.Statement .idleSoh := ⟨(0xFF, 0x01), rfl, rfl⟩

theorem RowWord.hdrOther_00_00 : RowWord.Statement .hdrOther_00_00 := ⟨(0xFF, 0x00), rfl, rfl⟩

theorem RowWord.hdrOther_05_05 : RowWord.Statement .hdrOther_05_05 := ⟨(0xFF, 0x05), rfl, rfl⟩

theorem RowWord.hdrOther_06_07 (x : BitVec 1) : RowWord.Statement (.hdrOther_06_07 x) :=
  ⟨(0xFE, 0x06), rfl, rowByte_and_mask _ _ x rfl (by revert x; decide)⟩

theorem RowWord.hdrOther_08_0F (x : BitVec 3) : RowWord.Statement (.hdrOther_08_0F x) :=
  ⟨(0xF8, 0x08), rfl, rowByte_and_mask _ _ x rfl (by revert x; decide)⟩

theorem RowWord.hdrOther_10_1F (x : BitVec 4) : RowWord.Statement (.hdrOther_10_1F x) :=
  ⟨(0xF0, 0x10), rfl, rowByte_and_mask _ _ x rfl (by revert x; decide)⟩

theorem RowWord.hdrOther_FF_FF : RowWord.Statement .hdrOther_FF_FF := ⟨(0xFF, 0xFF), rfl, rfl⟩

theorem RowWord.hdrSoh : RowWord.Statement .hdrSoh := ⟨(0xFF, 0x01), rfl, rfl⟩

theorem RowWord.hdrStx : RowWord.Statement .hdrStx := ⟨(0xFF, 0x02), rfl, rfl⟩

theorem RowWord.hdrEtx : RowWord.Statement .hdrEtx := ⟨(0xFF, 0x03), rfl, rfl⟩

theorem RowWord.hdrEot : RowWord.Statement .hdrEot := ⟨(0xFF, 0x04), rfl, rfl⟩

theorem RowWord.hdrPrint_20_3F (x : BitVec 5) : RowWord.Statement (.hdrPrint_20_3F x) :=
  ⟨(0xE0, 0x20), rfl, rowByte_and_mask _ _ x rfl (by revert x; decide)⟩

theorem RowWord.hdrPrint_40_7F (x : BitVec 6) : RowWord.Statement (.hdrPrint_40_7F x) :=
  ⟨(0xC0, 0x40), rfl, rowByte_and_mask _ _ x rfl (by revert x; decide)⟩

theorem RowWord.hdrPrint_80_BF (x : BitVec 6) : RowWord.Statement (.hdrPrint_80_BF x) :=
  ⟨(0xC0, 0x80), rfl, rowByte_and_mask _ _ x rfl (by revert x; decide)⟩

theorem RowWord.hdrPrint_C0_DF (x : BitVec 5) : RowWord.Statement (.hdrPrint_C0_DF x) :=
  ⟨(0xE0, 0xC0), rfl, rowByte_and_mask _ _ x rfl (by revert x; decide)⟩

theorem RowWord.hdrPrint_E0_EF (x : BitVec 4) : RowWord.Statement (.hdrPrint_E0_EF x) :=
  ⟨(0xF0, 0xE0), rfl, rowByte_and_mask _ _ x rfl (by revert x; decide)⟩

theorem RowWord.hdrPrint_F0_F7 (x : BitVec 3) : RowWord.Statement (.hdrPrint_F0_F7 x) :=
  ⟨(0xF8, 0xF0), rfl, rowByte_and_mask _ _ x rfl (by revert x; decide)⟩

theorem RowWord.hdrPrint_F8_FB (x : BitVec 2) : RowWord.Statement (.hdrPrint_F8_FB x) :=
  ⟨(0xFC, 0xF8), rfl, rowByte_and_mask _ _ x rfl (by revert x; decide)⟩

theorem RowWord.hdrPrint_FC_FD (x : BitVec 1) : RowWord.Statement (.hdrPrint_FC_FD x) :=
  ⟨(0xFE, 0xFC), rfl, rowByte_and_mask _ _ x rfl (by revert x; decide)⟩

theorem RowWord.hdrPrint_FE_FE : RowWord.Statement .hdrPrint_FE_FE := ⟨(0xFF, 0xFE), rfl, rfl⟩

theorem RowWord.bodyOther_00_00 : RowWord.Statement .bodyOther_00_00 := ⟨(0xFF, 0x00), rfl, rfl⟩

theorem RowWord.bodyOther_05_05 : RowWord.Statement .bodyOther_05_05 := ⟨(0xFF, 0x05), rfl, rfl⟩

theorem RowWord.bodyOther_06_07 (x : BitVec 1) : RowWord.Statement (.bodyOther_06_07 x) :=
  ⟨(0xFE, 0x06), rfl, rowByte_and_mask _ _ x rfl (by revert x; decide)⟩

theorem RowWord.bodyOther_08_0F (x : BitVec 3) : RowWord.Statement (.bodyOther_08_0F x) :=
  ⟨(0xF8, 0x08), rfl, rowByte_and_mask _ _ x rfl (by revert x; decide)⟩

theorem RowWord.bodyOther_10_1F (x : BitVec 4) : RowWord.Statement (.bodyOther_10_1F x) :=
  ⟨(0xF0, 0x10), rfl, rowByte_and_mask _ _ x rfl (by revert x; decide)⟩

theorem RowWord.bodyOther_FF_FF : RowWord.Statement .bodyOther_FF_FF := ⟨(0xFF, 0xFF), rfl, rfl⟩

theorem RowWord.bodySoh : RowWord.Statement .bodySoh := ⟨(0xFF, 0x01), rfl, rfl⟩

theorem RowWord.bodyStx : RowWord.Statement .bodyStx := ⟨(0xFF, 0x02), rfl, rfl⟩

theorem RowWord.bodyEtx : RowWord.Statement .bodyEtx := ⟨(0xFF, 0x03), rfl, rfl⟩

theorem RowWord.bodyEot : RowWord.Statement .bodyEot := ⟨(0xFF, 0x04), rfl, rfl⟩

theorem RowWord.bodyPrint_20_3F (x : BitVec 5) : RowWord.Statement (.bodyPrint_20_3F x) :=
  ⟨(0xE0, 0x20), rfl, rowByte_and_mask _ _ x rfl (by revert x; decide)⟩

theorem RowWord.bodyPrint_40_7F (x : BitVec 6) : RowWord.Statement (.bodyPrint_40_7F x) :=
  ⟨(0xC0, 0x40), rfl, rowByte_and_mask _ _ x rfl (by revert x; decide)⟩

theorem RowWord.bodyPrint_80_BF (x : BitVec 6) : RowWord.Statement (.bodyPrint_80_BF x) :=
  ⟨(0xC0, 0x80), rfl, rowByte_and_mask _ _ x rfl (by revert x; decide)⟩

theorem RowWord.bodyPrint_C0_DF (x : BitVec 5) : RowWord.Statement (.bodyPrint_C0_DF x) :=
  ⟨(0xE0, 0xC0), rfl, rowByte_and_mask _ _ x rfl (by revert x; decide)⟩

theorem RowWord.bodyPrint_E0_EF (x : BitVec 4) : RowWord.Statement (.bodyPrint_E0_EF x) :=
  ⟨(0xF0, 0xE0), rfl, rowByte_and_mask _ _ x rfl (by revert x; decide)⟩

theorem RowWord.bodyPrint_F0_F7 (x : BitVec 3) : RowWord.Statement (.bodyPrint_F0_F7 x) :=
  ⟨(0xF8, 0xF0), rfl, rowByte_and_mask _ _ x rfl (by revert x; decide)⟩

theorem RowWord.bodyPrint_F8_FB (x : BitVec 2) : RowWord.Statement (.bodyPrint_F8_FB x) :=
  ⟨(0xFC, 0xF8), rfl, rowByte_and_mask _ _ x rfl (by revert x; decide)⟩

theorem RowWord.bodyPrint_FC_FD (x : BitVec 1) : RowWord.Statement (.bodyPrint_FC_FD x) :=
  ⟨(0xFE, 0xFC), rfl, rowByte_and_mask _ _ x rfl (by revert x; decide)⟩

theorem RowWord.bodyPrint_FE_FE : RowWord.Statement .bodyPrint_FE_FE := ⟨(0xFF, 0xFE), rfl, rfl⟩

theorem RowWord.crcNonhex_00_00 : RowWord.Statement .crcNonhex_00_00 := ⟨(0xFF, 0x00), rfl, rfl⟩

theorem RowWord.crcNonhex_05_05 : RowWord.Statement .crcNonhex_05_05 := ⟨(0xFF, 0x05), rfl, rfl⟩

theorem RowWord.crcNonhex_06_07 (x : BitVec 1) : RowWord.Statement (.crcNonhex_06_07 x) :=
  ⟨(0xFE, 0x06), rfl, rowByte_and_mask _ _ x rfl (by revert x; decide)⟩

theorem RowWord.crcNonhex_08_0F (x : BitVec 3) : RowWord.Statement (.crcNonhex_08_0F x) :=
  ⟨(0xF8, 0x08), rfl, rowByte_and_mask _ _ x rfl (by revert x; decide)⟩

theorem RowWord.crcNonhex_10_1F (x : BitVec 4) : RowWord.Statement (.crcNonhex_10_1F x) :=
  ⟨(0xF0, 0x10), rfl, rowByte_and_mask _ _ x rfl (by revert x; decide)⟩

theorem RowWord.crcNonhex_20_2F (x : BitVec 4) : RowWord.Statement (.crcNonhex_20_2F x) :=
  ⟨(0xF0, 0x20), rfl, rowByte_and_mask _ _ x rfl (by revert x; decide)⟩

theorem RowWord.crcNonhex_3A_3B (x : BitVec 1) : RowWord.Statement (.crcNonhex_3A_3B x) :=
  ⟨(0xFE, 0x3A), rfl, rowByte_and_mask _ _ x rfl (by revert x; decide)⟩

theorem RowWord.crcNonhex_3C_3F (x : BitVec 2) : RowWord.Statement (.crcNonhex_3C_3F x) :=
  ⟨(0xFC, 0x3C), rfl, rowByte_and_mask _ _ x rfl (by revert x; decide)⟩

theorem RowWord.crcNonhex_40_40 : RowWord.Statement .crcNonhex_40_40 := ⟨(0xFF, 0x40), rfl, rfl⟩

theorem RowWord.crcNonhex_47_47 : RowWord.Statement .crcNonhex_47_47 := ⟨(0xFF, 0x47), rfl, rfl⟩

theorem RowWord.crcNonhex_48_4F (x : BitVec 3) : RowWord.Statement (.crcNonhex_48_4F x) :=
  ⟨(0xF8, 0x48), rfl, rowByte_and_mask _ _ x rfl (by revert x; decide)⟩

theorem RowWord.crcNonhex_50_5F (x : BitVec 4) : RowWord.Statement (.crcNonhex_50_5F x) :=
  ⟨(0xF0, 0x50), rfl, rowByte_and_mask _ _ x rfl (by revert x; decide)⟩

theorem RowWord.crcNonhex_60_60 : RowWord.Statement .crcNonhex_60_60 := ⟨(0xFF, 0x60), rfl, rfl⟩

theorem RowWord.crcNonhex_67_67 : RowWord.Statement .crcNonhex_67_67 := ⟨(0xFF, 0x67), rfl, rfl⟩

theorem RowWord.crcNonhex_68_6F (x : BitVec 3) : RowWord.Statement (.crcNonhex_68_6F x) :=
  ⟨(0xF8, 0x68), rfl, rowByte_and_mask _ _ x rfl (by revert x; decide)⟩

theorem RowWord.crcNonhex_70_7F (x : BitVec 4) : RowWord.Statement (.crcNonhex_70_7F x) :=
  ⟨(0xF0, 0x70), rfl, rowByte_and_mask _ _ x rfl (by revert x; decide)⟩

theorem RowWord.crcNonhex_80_FF (x : BitVec 7) : RowWord.Statement (.crcNonhex_80_FF x) :=
  ⟨(0x80, 0x80), rfl, rowByte_and_mask _ _ x rfl (by revert x; decide)⟩

theorem RowWord.crcSoh : RowWord.Statement .crcSoh := ⟨(0xFF, 0x01), rfl, rfl⟩

theorem RowWord.crcStx : RowWord.Statement .crcStx := ⟨(0xFF, 0x02), rfl, rfl⟩

theorem RowWord.crcEtx : RowWord.Statement .crcEtx := ⟨(0xFF, 0x03), rfl, rfl⟩

theorem RowWord.crcEot : RowWord.Statement .crcEot := ⟨(0xFF, 0x04), rfl, rfl⟩

theorem RowWord.crcHex_30_37 (x : BitVec 3) : RowWord.Statement (.crcHex_30_37 x) :=
  ⟨(0xF8, 0x30), rfl, rowByte_and_mask _ _ x rfl (by revert x; decide)⟩

theorem RowWord.crcHex_38_39 (x : BitVec 1) : RowWord.Statement (.crcHex_38_39 x) :=
  ⟨(0xFE, 0x38), rfl, rowByte_and_mask _ _ x rfl (by revert x; decide)⟩

theorem RowWord.crcHex_41_41 : RowWord.Statement .crcHex_41_41 := ⟨(0xFF, 0x41), rfl, rfl⟩

theorem RowWord.crcHex_42_43 (x : BitVec 1) : RowWord.Statement (.crcHex_42_43 x) :=
  ⟨(0xFE, 0x42), rfl, rowByte_and_mask _ _ x rfl (by revert x; decide)⟩

theorem RowWord.crcHex_44_45 (x : BitVec 1) : RowWord.Statement (.crcHex_44_45 x) :=
  ⟨(0xFE, 0x44), rfl, rowByte_and_mask _ _ x rfl (by revert x; decide)⟩

theorem RowWord.crcHex_46_46 : RowWord.Statement .crcHex_46_46 := ⟨(0xFF, 0x46), rfl, rfl⟩

theorem RowWord.crcHex_61_61 : RowWord.Statement .crcHex_61_61 := ⟨(0xFF, 0x61), rfl, rfl⟩

theorem RowWord.crcHex_62_63 (x : BitVec 1) : RowWord.Statement (.crcHex_62_63 x) :=
  ⟨(0xFE, 0x62), rfl, rowByte_and_mask _ _ x rfl (by revert x; decide)⟩

theorem RowWord.crcHex_64_65 (x : BitVec 1) : RowWord.Statement (.crcHex_64_65 x) :=
  ⟨(0xFE, 0x64), rfl, rowByte_and_mask _ _ x rfl (by revert x; decide)⟩

theorem RowWord.crcHex_66_66 : RowWord.Statement .crcHex_66_66 := ⟨(0xFF, 0x66), rfl, rfl⟩

theorem RowWord.cmd (p : Nat) (body : Bytes) (timeout : Nat) : RowWord.Statement (.cmd p body timeout) := .inl rfl

theorem RowWord.cmdNr (p : Nat) (body : Bytes) (timeout : Nat) : RowWord.Statement (.cmdNr p body timeout) := .inr (.inl rfl)

theorem RowWord.excl (p : Nat) : RowWord.Statement (.excl p) := .inr (.inr (.inl rfl))

theorem RowWord.release (p : Nat) : RowWord.Statement (.release p) := .inr (.inr (.inr rfl))

theorem RowWord.headerCmd : RowWord.Statement (.headerCmd) := rfl

theorem RowWord.headerResp (body : Bytes) : RowWord.Statement (.headerResp body) := .inl rfl

theorem RowWord.headerErr (body : Bytes) : RowWord.Statement (.headerErr body) := .inr rfl

theorem RowWord.encode (header body : Bytes) : RowWord.Statement (.encode header body) := rfl

theorem RowWord.crc32 (body : Bytes) : RowWord.Statement (.crc32 body) := rfl

theorem RowWord.decode (timeout : Nat) : RowWord.Statement (.decode timeout) := rfl

end Sys2Proof.Laws
end

