-- ==== Sys2Proof/Laws/Rows.lean ====
section
/-! SUPPORT. The 78 received-byte rows read as the twenty decoder steps of R138: which step a row is
(`rowStep`), which step a state and a byte select by the byte's class (`stepOf`), and that running the decoded
row is running that step (`exec_decodeRx`). Proofs about received bytes cite this file and never unfold a
row. -/

namespace Sys2Proof.Laws

open Sys2Proof.Machine

/-- The twenty decoder steps. -/
inductive StepName where
  | idleSkip
  | idleSoh
  | hdrOther
  | hdrSoh
  | hdrStx
  | hdrEtx
  | hdrEot
  | hdrPrint
  | bodyOther
  | bodySoh
  | bodyStx
  | bodyEtx
  | bodyEot
  | bodyPrint
  | crcNonhex
  | crcSoh
  | crcStx
  | crcEtx
  | crcEot
  | crcHex
deriving DecidableEq, Repr

/-- The step a row belongs to, and the row's byte. -/
def rowStep : Instr → Option (StepName × Byte)
  | .idleSkip_00_00 => some (.idleSkip, 0x00)
  | .idleSkip_02_03 x => some (.idleSkip, rowByte 0x02 x)
  | .idleSkip_04_07 x => some (.idleSkip, rowByte 0x04 x)
  | .idleSkip_08_0F x => some (.idleSkip, rowByte 0x08 x)
  | .idleSkip_10_1F x => some (.idleSkip, rowByte 0x10 x)
  | .idleSkip_20_3F x => some (.idleSkip, rowByte 0x20 x)
  | .idleSkip_40_7F x => some (.idleSkip, rowByte 0x40 x)
  | .idleSkip_80_FF x => some (.idleSkip, rowByte 0x80 x)
  | .idleSoh => some (.idleSoh, 0x01)
  | .hdrOther_00_00 => some (.hdrOther, 0x00)
  | .hdrOther_05_05 => some (.hdrOther, 0x05)
  | .hdrOther_06_07 x => some (.hdrOther, rowByte 0x06 x)
  | .hdrOther_08_0F x => some (.hdrOther, rowByte 0x08 x)
  | .hdrOther_10_1F x => some (.hdrOther, rowByte 0x10 x)
  | .hdrOther_FF_FF => some (.hdrOther, 0xFF)
  | .hdrSoh => some (.hdrSoh, 0x01)
  | .hdrStx => some (.hdrStx, 0x02)
  | .hdrEtx => some (.hdrEtx, 0x03)
  | .hdrEot => some (.hdrEot, 0x04)
  | .hdrPrint_20_3F x => some (.hdrPrint, rowByte 0x20 x)
  | .hdrPrint_40_7F x => some (.hdrPrint, rowByte 0x40 x)
  | .hdrPrint_80_BF x => some (.hdrPrint, rowByte 0x80 x)
  | .hdrPrint_C0_DF x => some (.hdrPrint, rowByte 0xC0 x)
  | .hdrPrint_E0_EF x => some (.hdrPrint, rowByte 0xE0 x)
  | .hdrPrint_F0_F7 x => some (.hdrPrint, rowByte 0xF0 x)
  | .hdrPrint_F8_FB x => some (.hdrPrint, rowByte 0xF8 x)
  | .hdrPrint_FC_FD x => some (.hdrPrint, rowByte 0xFC x)
  | .hdrPrint_FE_FE => some (.hdrPrint, 0xFE)
  | .bodyOther_00_00 => some (.bodyOther, 0x00)
  | .bodyOther_05_05 => some (.bodyOther, 0x05)
  | .bodyOther_06_07 x => some (.bodyOther, rowByte 0x06 x)
  | .bodyOther_08_0F x => some (.bodyOther, rowByte 0x08 x)
  | .bodyOther_10_1F x => some (.bodyOther, rowByte 0x10 x)
  | .bodyOther_FF_FF => some (.bodyOther, 0xFF)
  | .bodySoh => some (.bodySoh, 0x01)
  | .bodyStx => some (.bodyStx, 0x02)
  | .bodyEtx => some (.bodyEtx, 0x03)
  | .bodyEot => some (.bodyEot, 0x04)
  | .bodyPrint_20_3F x => some (.bodyPrint, rowByte 0x20 x)
  | .bodyPrint_40_7F x => some (.bodyPrint, rowByte 0x40 x)
  | .bodyPrint_80_BF x => some (.bodyPrint, rowByte 0x80 x)
  | .bodyPrint_C0_DF x => some (.bodyPrint, rowByte 0xC0 x)
  | .bodyPrint_E0_EF x => some (.bodyPrint, rowByte 0xE0 x)
  | .bodyPrint_F0_F7 x => some (.bodyPrint, rowByte 0xF0 x)
  | .bodyPrint_F8_FB x => some (.bodyPrint, rowByte 0xF8 x)
  | .bodyPrint_FC_FD x => some (.bodyPrint, rowByte 0xFC x)
  | .bodyPrint_FE_FE => some (.bodyPrint, 0xFE)
  | .crcNonhex_00_00 => some (.crcNonhex, 0x00)
  | .crcNonhex_05_05 => some (.crcNonhex, 0x05)
  | .crcNonhex_06_07 x => some (.crcNonhex, rowByte 0x06 x)
  | .crcNonhex_08_0F x => some (.crcNonhex, rowByte 0x08 x)
  | .crcNonhex_10_1F x => some (.crcNonhex, rowByte 0x10 x)
  | .crcNonhex_20_2F x => some (.crcNonhex, rowByte 0x20 x)
  | .crcNonhex_3A_3B x => some (.crcNonhex, rowByte 0x3A x)
  | .crcNonhex_3C_3F x => some (.crcNonhex, rowByte 0x3C x)
  | .crcNonhex_40_40 => some (.crcNonhex, 0x40)
  | .crcNonhex_47_47 => some (.crcNonhex, 0x47)
  | .crcNonhex_48_4F x => some (.crcNonhex, rowByte 0x48 x)
  | .crcNonhex_50_5F x => some (.crcNonhex, rowByte 0x50 x)
  | .crcNonhex_60_60 => some (.crcNonhex, 0x60)
  | .crcNonhex_67_67 => some (.crcNonhex, 0x67)
  | .crcNonhex_68_6F x => some (.crcNonhex, rowByte 0x68 x)
  | .crcNonhex_70_7F x => some (.crcNonhex, rowByte 0x70 x)
  | .crcNonhex_80_FF x => some (.crcNonhex, rowByte 0x80 x)
  | .crcSoh => some (.crcSoh, 0x01)
  | .crcStx => some (.crcStx, 0x02)
  | .crcEtx => some (.crcEtx, 0x03)
  | .crcEot => some (.crcEot, 0x04)
  | .crcHex_30_37 x => some (.crcHex, rowByte 0x30 x)
  | .crcHex_38_39 x => some (.crcHex, rowByte 0x38 x)
  | .crcHex_41_41 => some (.crcHex, 0x41)
  | .crcHex_42_43 x => some (.crcHex, rowByte 0x42 x)
  | .crcHex_44_45 x => some (.crcHex, rowByte 0x44 x)
  | .crcHex_46_46 => some (.crcHex, 0x46)
  | .crcHex_61_61 => some (.crcHex, 0x61)
  | .crcHex_62_63 x => some (.crcHex, rowByte 0x62 x)
  | .crcHex_64_65 x => some (.crcHex, rowByte 0x64 x)
  | .crcHex_66_66 => some (.crcHex, 0x66)
  | .cmd _ _ _ => none
  | .cmdNr _ _ _ => none
  | .excl _ => none
  | .release _ => none
  | .headerCmd => none
  | .headerResp _ => none
  | .headerErr _ => none
  | .encode _ _ => none
  | .crc32 _ => none
  | .decode _ => none

/-- What a step does on byte `b`. -/
def StepName.run (n : StepName) (b : Byte) (s : State) : Answer :=
  match n with
  | .idleSkip => Sys2Proof.Machine.idleSkip s
  | .idleSoh => Sys2Proof.Machine.idleSoh s
  | .hdrOther => Sys2Proof.Machine.hdrOther b s
  | .hdrSoh => Sys2Proof.Machine.hdrSoh s
  | .hdrStx => Sys2Proof.Machine.hdrStx s
  | .hdrEtx => Sys2Proof.Machine.hdrEtx s
  | .hdrEot => Sys2Proof.Machine.hdrEot s
  | .hdrPrint => Sys2Proof.Machine.hdrPrint b s
  | .bodyOther => Sys2Proof.Machine.bodyOther b s
  | .bodySoh => Sys2Proof.Machine.bodySoh s
  | .bodyStx => Sys2Proof.Machine.bodyStx s
  | .bodyEtx => Sys2Proof.Machine.bodyEtx s
  | .bodyEot => Sys2Proof.Machine.bodyEot s
  | .bodyPrint => Sys2Proof.Machine.bodyPrint b s
  | .crcNonhex => Sys2Proof.Machine.crcNonhex b s
  | .crcSoh => Sys2Proof.Machine.crcSoh s
  | .crcStx => Sys2Proof.Machine.crcStx s
  | .crcEtx => Sys2Proof.Machine.crcEtx s
  | .crcEot => Sys2Proof.Machine.crcEot s
  | .crcHex => Sys2Proof.Machine.crcHex b s

/-- The step the table of R138 selects for a state and a byte. -/
def stepOf (st : PState) (b : Byte) : StepName :=
  match st, cls b with
  | .idle, .soh => .idleSoh
  | .idle, _ => .idleSkip
  | .inHeader, .soh => .hdrSoh
  | .inHeader, .stx => .hdrStx
  | .inHeader, .etx => .hdrEtx
  | .inHeader, .eot => .hdrEot
  | .inHeader, .print => .hdrPrint
  | .inHeader, .other => .hdrOther
  | .inBody, .soh => .bodySoh
  | .inBody, .stx => .bodyStx
  | .inBody, .etx => .bodyEtx
  | .inBody, .eot => .bodyEot
  | .inBody, .print => .bodyPrint
  | .inBody, .other => .bodyOther
  | .inCrc, .soh => .crcSoh
  | .inCrc, .stx => .crcStx
  | .inCrc, .etx => .crcEtx
  | .inCrc, .eot => .crcEot
  | .inCrc, _ => if isHex b then .crcHex else .crcNonhex

/-- A row's meaning is its step on its byte. -/
theorem exec_of_rowStep {i : Instr} {n : StepName} {b : Byte} (h : rowStep i = some (n, b)) (s : State) :
    exec i s = n.run b s := by
  cases i <;> first | (cases h; rfl) | (exact absurd h (by simp [rowStep]))

/-- The decoder picks the row of the step the byte's class selects, with that byte. -/
theorem rowStep_decodeRx (st : PState) (b : Byte) : rowStep (decodeRx st b) = some (stepOf st b, b) := by
  cases st <;> revert b <;> decide +kernel

/-- Running the instruction a received byte decodes to is running the step its class selects. -/
theorem exec_decodeRx (st : PState) (b : Byte) (s : State) :
    exec (decodeRx st b) s = (stepOf st b).run b s :=
  exec_of_rowStep (rowStep_decodeRx st b) s

end Sys2Proof.Laws
end

