-- ==== Sys2Proof/Tests/Slice0.lean ====
section
/-! SUPPORT. Tests: the ill-formed terms WellFormed refuses, one decoded word per row of the opcode table,
single steps with results taken from spec/95_test_vectors.md, and for every statement with hypotheses a state
that meets them (`witness_O<n>`). -/

namespace Sys2Proof.Tests

open Sys2Proof Sys2Proof.Machine Sys2Proof.Claims

/-! Helpers. -/

/-- The reset state with this parser. -/
def inState (st : PState) (h b c : Bytes) : State :=
  { State.reset with parser := { pstate := st, hdrBuf := h, bodyBuf := b, crcBuf := c } }

/-- The reset state with these buffer capacities and this parser. -/
def capped (cap : Option Nat) (st : PState) (h b c : Bytes) : State :=
  { inState st h b c with
    params := { Params.ofReset with hdrCap := cap, bodyCap := cap, crcCap := cap, txCap := cap } }

/-- A state whose next moves are `ms`. -/
def moving (ms : List Move) (s : State) : State := { s with schedule := ms }

/-- The last port (of two) owns the lock in phase `ph`. -/
def owned (ph : TPhase) (s : State) : State := { s with lockOwner := some 1, tphase := ph }

/-- The receive phase of a transaction of the last port, with these bytes waiting. -/
def receiving (rx : Bytes) (s : State) : State :=
  { owned .recv s with decActive := true, decTimer := 1, curTimeout := 1, rxFifo := rx }

/-- A frame of header `h` and empty body, whose EOT is the next byte. -/
def lastByte (h crcText : Bytes) : State := moving [.own] (receiving [0x04] (inState .inCrc h [] crcText))

/-- A port with a posted request. -/
def requesting (op : BitVec 2) : Port := { Port.afterReset with reqValid := true, req := { op := op, body := [0x7B], timeout := 65535 } }

/-- A port with a result to collect. -/
def answering : Port := { Port.afterReset with resValid := true }

/-- The eight digits of `CRC32([])`. -/
def zeros : Bytes := [0x30, 0x30, 0x30, 0x30, 0x30, 0x30, 0x30, 0x30]

/-! WellFormed: an ill-formed term for each check, and a well-formed one at the boundary. -/

theorem test_wellFormed_refuses_a_port_out_of_range :
    [Instr.cmd 2 [] 0, .cmdNr 2 [] 0, .excl 2, .release 2].map (Instr.wellFormed Params.ofReset 2) =
      [false, false, false, false] := by decide

theorem test_wellFormed_refuses_a_timeout_too_wide :
    [Instr.cmd 1 [] 65536, .cmdNr 1 [] 65536, .decode 65536].map (Instr.wellFormed Params.ofReset 2) =
      [false, false, false] := by decide

theorem test_wellFormed_admits_the_last_port_and_the_longest_timeout :
    [Instr.cmd 1 [] 65535, .cmdNr 1 [] 65535, .excl 1, .release 1, .decode 65535].all
      (Instr.wellFormed Params.ofReset 2) = true := by decide

theorem test_params_refuses_a_short_crc_buffer :
    (Params.ok { Params.ofReset with crcCap := some 7 } = false) ∧
    (Params.ok { Params.ofReset with crcCap := some 8 } = true) := by decide

theorem test_params_refuses_no_timer_bits : Params.ok { Params.ofReset with tw := 0 } = false := by decide

theorem test_params_refuses_a_tick_rate_not_positive :
    Params.ok { Params.ofReset with tickHz := 0 } = false := by decide

/-! Decode: words written out from the table. -/

/-- One word of every row of state `Idle`, written from the table's `match` and `mask` with free bits of its
own choice. -/
theorem test_decode_idle_rows :
    ([0b00000000, 0b00000011, 0b00000110, 0b00001110, 0b00011100, 0b00111000, 0b01110000, 0b11100000,
      0b00000001] : List Byte).map (decodeRx .idle) =
    [.idleSkip_00_00, .idleSkip_02_03 0b1, .idleSkip_04_07 0b10, .idleSkip_08_0F 0b110,
      .idleSkip_10_1F 0b1100, .idleSkip_20_3F 0b11000, .idleSkip_40_7F 0b110000,
      .idleSkip_80_FF 0b1100000, .idleSoh] := by
  decide +kernel

/-- One word of every row of state `InHeader`, written from the table's `match` and `mask` with free bits of its
own choice. -/
theorem test_decode_header_rows :
    ([0b00000000, 0b00000101, 0b00000111, 0b00001110, 0b00011100, 0b11111111, 0b00000001, 0b00000010,
      0b00000011, 0b00000100, 0b00111000, 0b01110000, 0b10110000, 0b11011000, 0b11101100, 0b11110110,
      0b11111010, 0b11111101, 0b11111110] : List Byte).map (decodeRx .inHeader) =
    [.hdrOther_00_00, .hdrOther_05_05, .hdrOther_06_07 0b1, .hdrOther_08_0F 0b110,
      .hdrOther_10_1F 0b1100, .hdrOther_FF_FF, .hdrSoh, .hdrStx, .hdrEtx, .hdrEot,
      .hdrPrint_20_3F 0b11000, .hdrPrint_40_7F 0b110000, .hdrPrint_80_BF 0b110000,
      .hdrPrint_C0_DF 0b11000, .hdrPrint_E0_EF 0b1100, .hdrPrint_F0_F7 0b110, .hdrPrint_F8_FB 0b10,
      .hdrPrint_FC_FD 0b1, .hdrPrint_FE_FE] := by
  decide +kernel

/-- One word of every row of state `InBody`, written from the table's `match` and `mask` with free bits of its
own choice. -/
theorem test_decode_body_rows :
    ([0b00000000, 0b00000101, 0b00000111, 0b00001110, 0b00011100, 0b11111111, 0b00000001, 0b00000010,
      0b00000011, 0b00000100, 0b00111000, 0b01110000, 0b10110000, 0b11011000, 0b11101100, 0b11110110,
      0b11111010, 0b11111101, 0b11111110] : List Byte).map (decodeRx .inBody) =
    [.bodyOther_00_00, .bodyOther_05_05, .bodyOther_06_07 0b1, .bodyOther_08_0F 0b110,
      .bodyOther_10_1F 0b1100, .bodyOther_FF_FF, .bodySoh, .bodyStx, .bodyEtx, .bodyEot,
      .bodyPrint_20_3F 0b11000, .bodyPrint_40_7F 0b110000, .bodyPrint_80_BF 0b110000,
      .bodyPrint_C0_DF 0b11000, .bodyPrint_E0_EF 0b1100, .bodyPrint_F0_F7 0b110, .bodyPrint_F8_FB 0b10,
      .bodyPrint_FC_FD 0b1, .bodyPrint_FE_FE] := by
  decide +kernel

/-- One word of every row of state `InCrc`, written from the table's `match` and `mask` with free bits of its
own choice. -/
theorem test_decode_crc_rows :
    ([0b00000000, 0b00000101, 0b00000111, 0b00001110, 0b00011100, 0b00101100, 0b00111011, 0b00111110,
      0b01000000, 0b01000111, 0b01001110, 0b01011100, 0b01100000, 0b01100111, 0b01101110, 0b01111100,
      0b11100000, 0b00000001, 0b00000010, 0b00000011, 0b00000100, 0b00110110, 0b00111001, 0b01000001,
      0b01000011, 0b01000101, 0b01000110, 0b01100001, 0b01100011, 0b01100101, 0b01100110] : List Byte).map (decodeRx .inCrc) =
    [.crcNonhex_00_00, .crcNonhex_05_05, .crcNonhex_06_07 0b1, .crcNonhex_08_0F 0b110,
      .crcNonhex_10_1F 0b1100, .crcNonhex_20_2F 0b1100, .crcNonhex_3A_3B 0b1, .crcNonhex_3C_3F 0b10,
      .crcNonhex_40_40, .crcNonhex_47_47, .crcNonhex_48_4F 0b110, .crcNonhex_50_5F 0b1100,
      .crcNonhex_60_60, .crcNonhex_67_67, .crcNonhex_68_6F 0b110, .crcNonhex_70_7F 0b1100,
      .crcNonhex_80_FF 0b1100000, .crcSoh, .crcStx, .crcEtx, .crcEot, .crcHex_30_37 0b110,
      .crcHex_38_39 0b1, .crcHex_41_41, .crcHex_42_43 0b1, .crcHex_44_45 0b1, .crcHex_46_46,
      .crcHex_61_61, .crcHex_62_63 0b1, .crcHex_64_65 0b1, .crcHex_66_66] := by
  decide +kernel
/-- R97, R185: the four codes of `req[p].op`. -/
theorem test_decode_host_operations :
    [decodeReq 1 0b00 [0x7B] 9, decodeReq 1 0b01 [0x7B] 9, decodeReq 1 0b10 [0x7B] 9, decodeReq 1 0b11 [0x7B] 9] =
      [.cmd 1 [0x7B] 9, .cmdNr 1 [0x7B] 9, .excl 1, .release 1] := by decide

/-- R90, R192, R201, R202: the header values as bytes; a header in lower case is none of them (V87). -/
theorem test_decode_headers :
    [decode (.sentHeader [0x43, 0x4D, 0x44]), decode (.rxHeader [0x52, 0x45, 0x53, 0x50] [0x61]),
      decode (.rxHeader [0x45, 0x52, 0x52] [0x61]), decode (.rxHeader [0x43, 0x4D, 0x44] []),
      decode (.rxHeader [0x72, 0x65, 0x73, 0x70] []), decode (.sentHeader [0x45, 0x52, 0x52])] =
    [.instr .headerCmd, .instr (.headerResp [0x61]), .instr (.headerErr [0x61]),
      .rejected .unexpectedHeader, .rejected .unexpectedHeader, .rejected .headerNeverSent] := by decide

/-- R103 (c), (d): the header values as the table numbers them, and no word for the internal operations. -/
theorem test_decodeTableWord :
    [decodeTableWord 24 0x434D44, decodeTableWord 32 0x52455350, decodeTableWord 24 0x455252,
      decodeTableWord 2 0b10, decodeTableWord 8 0x01, decodeTableWord 0 0] =
    [some .headerCmd, some (.headerResp []), some (.headerErr []), some (.excl 0), some .idleSoh, none] := by
  decide +kernel

/-! CRC and ENCODE. -/

/-- V13a to V13d, V13f. -/
theorem test_crc32_vectors :
    [crc32 [], crc32 [0x61], crc32 [0x31, 0x32, 0x33, 0x34, 0x35, 0x36, 0x37, 0x38, 0x39], crc32 [0x30],
      crc32 [0xFF]] =
    [0x00000000, 0xE8B7BE43, 0xCBF43926, 0xF4DBDF21, 0xFF000000] := by decide +kernel

/-- V15: upper case, lower case and a leading zero read alike; nine digits exceed 32 bits. -/
theorem test_hexVal_vectors :
    [hexVal [], hexVal [0x45, 0x38, 0x42, 0x37, 0x42, 0x45, 0x34, 0x33],
      hexVal [0x30, 0x65, 0x38, 0x62, 0x37, 0x62, 0x45, 0x34, 0x33],
      hexVal [0x31, 0x30, 0x30, 0x30, 0x30, 0x30, 0x30, 0x30, 0x30]] =
    [none, some 0xE8B7BE43, some 0xE8B7BE43, some 0x100000000] := by decide +kernel

/-- V19d. -/
theorem test_encode_vector :
    encodeFrame [0x48] [0xFE] =
      [0x01, 0x48, 0x02, 0xFE, 0x03, 0x38, 0x38, 0x30, 0x37, 0x33, 0x30, 0x39, 0x36, 0x04] := by
  decide +kernel

/-- V120, the `version` request. -/
theorem test_buildRequest_version :
    buildRequest methodVersion none =
      some [0x7B, 0x22, 0x6D, 0x65, 0x74, 0x68, 0x6F, 0x64, 0x22, 0x3A, 0x22, 0x76, 0x65, 0x72, 0x73, 0x69,
        0x6F, 0x6E, 0x22, 0x7D] := by decide +kernel

/-- V10, V120: `echo` of "Hi" sends it, reports success on the same string, and of another string or outcome
nothing is stated (N21). -/
theorem test_echo :
    echoPost 1 [0x48, 0x69] 9 = some (.post 1 0
      ([0x7B, 0x22, 0x6D, 0x65, 0x74, 0x68, 0x6F, 0x64, 0x22, 0x3A, 0x22, 0x65, 0x63, 0x68, 0x6F, 0x22, 0x2C,
        0x22, 0x70, 0x61, 0x72, 0x61, 0x6D, 0x73, 0x22, 0x3A, 0x7B, 0x22, 0x64, 0x61, 0x74, 0x61, 0x22, 0x3A,
        0x22, 0x48, 0x69, 0x22, 0x7D, 0x7D]) 9) ∧
    echoReport [0x48, 0x69] { Result.afterReset with value := .str ['H', 'i'] } = some true ∧
    echoReport [0x48, 0x69] { Result.afterReset with value := .str ['h', 'i'] } = none ∧
    echoReport [0x48, 0x69] { Result.afterReset with outcome := .timeout, value := .str ['H', 'i'] } = none := by
  decide +kernel

/-! Single steps. -/

/-- V31, its last STX. -/
theorem test_body_stx_restarts :
    exec .bodyStx (inState .inBody [0x48] [0x61, 0x62] []) =
      .next { inState .inBody [0x48] [] [] with evlog := [.restart .inBody 0x02] } := rfl

/-- V37, its last STX: the digits stay (D30). -/
theorem test_crc_stx_keeps_the_digits :
    exec .crcStx (inState .inCrc [0x48] [0x61] [0x31]) =
      .next { inState .inBody [0x48] [] [0x31] with evlog := [.restart .inCrc 0x02] } := rfl

/-- V50, its second SOH: the stale body goes. -/
theorem test_body_soh_clears_all :
    exec .bodySoh (inState .inBody [0x41] [0x78] []) =
      .next { inState .inHeader [] [] [] with evlog := [.restart .inBody 0x01] } := rfl

/-- V28, its last byte. -/
theorem test_header_line_feed_is_illegal :
    exec (.hdrOther_08_0F 0b010) (inState .inHeader [0x43] [] []) =
      .next { State.reset with evlog := [.invalidChar .inHeader 0x0A] } := rfl

/-- V54, its last byte: the byte that does not fit abandons the frame. -/
theorem test_body_overflow :
    exec (.bodyPrint_40_7F 0b100011) (capped (some 2) .inBody [0x48] [0x61, 0x62] []) =
      .next { capped (some 2) .idle [] [] [] with evlog := [.overflow .body] } := rfl

/-- V114: a release without a hold is refused, whatever the free values. -/
theorem test_release_without_hold :
    ∃ t, exec (.release 1) State.reset = .next t ∧ t.lockOwner = none ∧
      (portAt 1 t).map (fun q => (q.resValid, q.res.outcome, q.res.diag)) = some (true, .refused, 0) :=
  ⟨_, rfl, by decide, by decide⟩

/-- V116: a hold is granted with the connection closed. -/
theorem test_excl_granted_while_closed :
    ∃ t, exec (.excl 0) State.reset = .next t ∧ t.lockOwner = some 0 ∧ t.tphase = .excl :=
  ⟨_, rfl, rfl, rfl⟩

/-- V88: a wrong CRC ends the transaction at once, with time left. -/
theorem test_step_crc_failure_ends_the_transaction :
    ∃ t, step (lastByte [0x52] [0x31]) = .next t ∧ t.tphase = .idle ∧ t.decTimer = 1 ∧
      (portAt 1 t).map (fun q => (q.resValid, q.res.outcome)) = some (true, .noValidFrame) := by
  refine ⟨_, rfl, ?_, ?_, ?_⟩ <;> decide +kernel

/-- Log entry 5: a received byte placed where the step fetches it is run as the first instruction. -/
theorem test_withFetchWord_byte :
    ∃ t, step (State.reset.withFetchWord 8 0x01) = .next t ∧ t.parser.pstate = .inHeader ∧ t.rxFifo = [] := by
  refine ⟨_, rfl, ?_, ?_⟩ <;> decide +kernel

/-- Log entry 5: the header value the block sends. -/
theorem test_withFetchWord_headerCmd :
    ∃ t, step (State.reset.withFetchWord 24 0x434D44) = .next t ∧ t.tphase = .send ∧
      t.txFrame = [0x01, 0x43, 0x4D, 0x44, 0x02, 0x03] ++ zeros ++ [0x04] := by
  refine ⟨_, rfl, ?_, ?_⟩ <;> decide +kernel

/-- Log entry 5: a received `ERR` frame. -/
theorem test_withFetchWord_headerErr :
    ∃ t, step (State.reset.withFetchWord 24 0x455252) = .next t ∧
      (portAt 0 t).map (fun q => (q.res.outcome, q.res.diag)) = some (.protocolError, 3) := by
  refine ⟨_, rfl, ?_⟩; decide +kernel

/-- Reset: with no move to come nothing happens (log entry 1). -/
theorem test_reset_waits : step State.reset = .next State.reset := rfl

/-! Witnesses: a state and operands that meet the hypotheses of each statement that has some, clause by
clause, at the boundaries where a clause has one. -/

theorem witness_O1 : (inState .idle [] [] []).parser.pstate = .idle := rfl
theorem witness_O2 : (inState .idle [0x41] [] []).parser.pstate = .idle := rfl
theorem witness_O3 : (inState .inHeader [0x41] [] []).parser.pstate = .inHeader ∧
    (inState .inBody [] [0x41] []).parser.pstate = .inBody ∧
    (inState .inCrc [] [] [0x41]).parser.pstate = .inCrc := ⟨rfl, rfl, rfl⟩
theorem witness_O4 : (inState .inHeader [] [] []).parser.pstate = .inHeader ∧
    (inState .inBody [] [0x41] []).parser.pstate = .inBody ∧
    (inState .inCrc [] [] [0x41]).parser.pstate = .inCrc := ⟨rfl, rfl, rfl⟩
theorem witness_O5 : (inState .inHeader [] [] []).parser.pstate = .inHeader ∧
    (inState .inBody [] [0x41] []).parser.pstate = .inBody ∧
    (inState .inCrc [] [] [0x41]).parser.pstate = .inCrc := ⟨rfl, rfl, rfl⟩

/-- One byte of room, no limit, and none left. -/
theorem witness_O6 :
    ∀ s ∈ [capped (some 2) .inHeader [0x41] [] [], capped none .inHeader [0x41] [] [],
        capped (some 1) .inHeader [0x41] [] []],
      s.parser.pstate = .inHeader ∧ (s.params.hdrCap = some s.parser.hdrBuf.length ↔ s.params.hdrCap = some 1) := by
  decide
theorem witness_O7 :
    ∀ s ∈ [capped (some 2) .inBody [] [0x41] [], capped none .inBody [] [0x41] [],
        capped (some 1) .inBody [] [0x41] []],
      s.parser.pstate = .inBody ∧ (s.params.bodyCap = some s.parser.bodyBuf.length ↔ s.params.bodyCap = some 1) := by
  decide
theorem witness_O8 :
    ∀ s ∈ [capped (some 9) .inCrc [] [] zeros, capped none .inCrc [] [] zeros, capped (some 8) .inCrc [] [] zeros],
      s.parser.pstate = .inCrc ∧ (s.params.crcCap = some s.parser.crcBuf.length ↔ s.params.crcCap = some 8) := by
  decide
theorem witness_O9 : (inState .inHeader [0x41] [] []).parser.pstate = .inHeader ∧
    (inState .inBody [] [0x41] []).parser.pstate = .inBody := ⟨rfl, rfl⟩
theorem witness_O10 : (inState .inHeader [0x41] [] []).parser.pstate = .inHeader ∧
    (inState .inBody [] [0x41] []).parser.pstate = .inBody ∧
    (inState .inCrc [] [] [0x41]).parser.pstate = .inCrc := ⟨rfl, rfl, rfl⟩

/-- A matching field, a field one too high and an empty field. -/
theorem witness_O11 :
    hexVal zeros = some (crc32 []).toNat ∧ hexVal [0x31] ≠ some (crc32 []).toNat ∧
    hexVal [] ≠ some (crc32 []).toNat ∧ (inState .inCrc [] [] zeros).parser.pstate = .inCrc := by
  decide +kernel
theorem witness_O12 :
    Instr.rxWord .hdrSoh = some (.inHeader, 0x01) ∧ State.reset.parser.pstate ≠ .inHeader ∧
    State.reset.ports.length ≤ 2 ∧ State.reset.tphase ≠ .flush ∧ State.reset.tphase ≠ .recv ∧
    (receiving [] State.reset).decActive = true := by decide
theorem witness_O14 :
    ∀ s ∈ [capped (some 1) .inHeader [] [] [], capped (some 9) .inCrc [0x41] [0x41] zeros],
      bufferFull s.params.hdrCap s.parser.hdrBuf = false ∧ bufferFull s.params.bodyCap s.parser.bodyBuf = false ∧
      bufferFull s.params.crcCap s.parser.crcBuf = false := by decide

/-- The second clause from a state that is not the reset state; the third from both its causes. -/
theorem witness_O15 :
    Inv12 (inState .inHeader [0x41] [] []).parser ∧
    (∃ t, exec (decodeRx .inHeader 0x41) (inState .inHeader [0x41] [] []) = .next t) ∧
    (∃ t, exec (decodeRx .inBody 0x03) (inState .inBody [] [] [0x31]) = .next t ∧ t.parser.pstate = .inCrc) ∧
    (∃ t, exec (decodeRx .inCrc 0x03) (inState .inCrc [] [] [0x31]) = .next t ∧ t.parser.pstate = .inCrc) := by
  refine ⟨?_, ⟨_, rfl⟩, ⟨_, rfl, rfl⟩, ⟨_, rfl, rfl⟩⟩
  simp [Inv12, inState]

/-- Buffers that the frame fills exactly; the parser is in the middle of another. -/
theorem witness_O16 : ∃ s : State, clean [0x20] = true ∧ clean [0xFE] = true ∧ fits s.params.hdrCap [0x20] ∧
    fits s.params.bodyCap [0xFE] ∧ (∀ n, s.params.crcCap = some n → 8 ≤ n) ∧ s.params.crcCap = some 8 ∧
    s.params.bodyCap = some 1 := by
  refine ⟨{ inState .inCrc [0x41] [0x41] [0x41] with
    params := { Params.ofReset with hdrCap := some 1, bodyCap := some 1, crcCap := some 8 } },
    by decide, by decide, ?_, ?_, ?_, rfl, rfl⟩ <;> simp [fits]
theorem witness_O17 :
    (∃ s : State, clean [] = true ∧ clean [0x20, 0xFE] = true ∧ fits s.params.hdrCap [] ∧
      fits s.params.bodyCap [0x20, 0xFE] ∧ (∀ n, s.params.crcCap = some n → 8 ≤ n) ∧ s.params.hdrCap = some 0 ∧
      s.params.bodyCap = some 2) ∧
    Inv12 (inState .inHeader [0x41] [] []).parser := by
  refine ⟨⟨{ inState .inBody [] [0x41] [] with
    params := { Params.ofReset with hdrCap := some 0, bodyCap := some 2, crcCap := some 8 } },
    by decide, by decide, ?_, ?_, ?_, rfl, rfl⟩, ?_⟩ <;> simp [fits, Inv12, inState]
theorem witness_O20 : (0x00 : Byte) ≠ 0x80 := by decide

/-- A field of nine digits that matches, and one whose value is exactly 2^32. -/
theorem witness_O22 :
    zeros ≠ [] ∧ (0x30 :: zeros).all isHex = true ∧ 8 < (0x30 :: zeros).length ∧
    crcMatch [] (0x30 :: zeros) = true ∧ hexVal (0x31 :: zeros) = some (2 ^ 32) := by decide +kernel
theorem witness_O23 : (0x46 :: zeros).all isHex = true := by decide
theorem witness_O26 : (inState .inBody [] [0x41] []).decActive = false := rfl

/-- The last tick that counts, a tick at zero, and a tick with no `DECODE`. -/
theorem witness_O27 :
    Ready (moving [.tick] (receiving [] State.reset)) .tick [] ∧ (receiving [] State.reset).decTimer = 1 ∧
    Ready (moving [.tick] (owned .recv { State.reset with decActive := true })) .tick [] ∧
    Ready (moving [.tick] State.reset) .tick [] := by
  refine ⟨⟨by decide, rfl⟩, rfl, ⟨by decide, rfl⟩, ⟨by decide, rfl⟩⟩

theorem witness_O28 : ∃ s : State, configOk s = true ∧ s.tphase = .recv ∧ s.decActive = true ∧
    s.xpErr = none ∧ s.lockOwner = some 1 ∧ 1 < s.ports.length ∧
    s.schedule = List.replicate s.decTimer .tick ++ .own :: [] :=
  ⟨moving [.tick, .own] (receiving [0x01] State.reset), by decide, rfl, rfl, rfl, rfl, by decide, rfl⟩

theorem witness_O29 : ∃ s : State, configOk s = true ∧ s.tphase = .drain ∧ s.txDrained = true ∧
    s.xpErr = none ∧ s.decActive = false ∧ s.curTimeout = 0 ∧ s.lockOwner = some 1 ∧ 1 < s.ports.length ∧
    s.schedule = .own :: .own :: [] ∧ s.rxFifo = [0x01] :=
  ⟨moving [.own, .own] (owned .drain { State.reset with rxFifo := [0x01] }), by decide, rfl, rfl, rfl, rfl, rfl,
    rfl, by decide, rfl, rfl⟩

theorem witness_O30 : ∃ s : State, Ready s .own [] ∧ s.tphase = .recv ∧ s.decActive = true ∧
    s.decTimer = 0 ∧ s.xpErr = none ∧ s.lockOwner = some 1 ∧ s.rxFifo = [0x01] :=
  ⟨moving [.own] (owned .recv { State.reset with decActive := true, rxFifo := [0x01] }), ⟨by decide, rfl⟩, rfl,
    rfl, rfl, rfl, rfl, rfl⟩

/-- What O31 supposes of a state and of the state the byte's instruction leaves. -/
def ByteReady (s t : State) : Prop :=
  Ready s .own [] ∧ s.tphase = .recv ∧ s.decActive = true ∧ 0 < s.decTimer ∧ s.xpErr = none ∧
  s.lockOwner = some 1 ∧ ∃ b r, s.rxFifo = b :: r ∧
    exec (decodeRx s.parser.pstate b) { s with schedule := [], rxFifo := r } = .next t

/-- The five clauses of O31. -/
theorem witness_O31 :
    (∃ s t, ByteReady s t ∧ t.decOut = .none) ∧ (∃ s t, ByteReady s t ∧ t.decOut = .crcFail) ∧
    (∃ s t, ByteReady s t ∧ t.decOut = .frame [0x52, 0x45, 0x53, 0x50] []) ∧
    (∃ s t, ByteReady s t ∧ t.decOut = .frame [0x45, 0x52, 0x52] []) ∧
    (∃ s t, ByteReady s t ∧ t.decOut = .frame [0x52, 0x45, 0x53] [] ∧
      ([0x52, 0x45, 0x53] : Bytes) ≠ [0x52, 0x45, 0x53, 0x50] ∧ ([0x52, 0x45, 0x53] : Bytes) ≠ [0x45, 0x52, 0x52]) := by
  refine ⟨⟨moving [.own] (receiving [0x01] State.reset), _,
      ⟨⟨by decide, rfl⟩, rfl, rfl, by decide, rfl, rfl, _, _, rfl, rfl⟩, by decide +kernel⟩,
    ⟨lastByte [] [0x31], _, ⟨⟨by decide, rfl⟩, rfl, rfl, by decide, rfl, rfl, _, _, rfl, rfl⟩, by decide +kernel⟩,
    ⟨lastByte [0x52, 0x45, 0x53, 0x50] zeros, _,
      ⟨⟨by decide, rfl⟩, rfl, rfl, by decide, rfl, rfl, _, _, rfl, rfl⟩, by decide +kernel⟩,
    ⟨lastByte [0x45, 0x52, 0x52] zeros, _,
      ⟨⟨by decide, rfl⟩, rfl, rfl, by decide, rfl, rfl, _, _, rfl, rfl⟩, by decide +kernel⟩,
    ⟨lastByte [0x52, 0x45, 0x53] zeros, _,
      ⟨⟨by decide, rfl⟩, rfl, rfl, by decide, rfl, rfl, _, _, rfl, rfl⟩, by decide +kernel, by decide, by decide⟩⟩

/-- The three clauses of O32. -/
theorem witness_O32 :
    (∃ s : State, Ready s (.take 1) [] ∧ s.tphase ≠ .code6 ∧ s.tphase ≠ .code7 ∧
      s.ports[1]? = some (requesting 3)) ∧ (requesting 3).reqValid = true ∧
    (∃ s : State, Ready s .own [] ∧ s.tphase = .flush ∧ s.xpErr = none) ∧
    (∃ s t : State, Ready s .own [] ∧ s.tphase = .drain ∧ s.xpErr = none ∧ s.txDrained = true ∧
      exec (.decode s.curTimeout) { s with schedule := [] } = .next t) := by
  refine ⟨⟨moving [.take 1] { State.reset with ports := [Port.afterReset, requesting 3] }, ⟨by decide, rfl⟩,
      by decide, by decide, rfl⟩, rfl, ⟨moving [.own] (owned .flush State.reset), ⟨by decide, rfl⟩, rfl, rfl⟩,
    ⟨moving [.own] (owned .drain State.reset), _, ⟨by decide, rfl⟩, rfl, rfl, rfl, rfl⟩⟩

theorem witness_O33 : ∃ s : State, Ready s .own [] ∧ s.tphase = .recv ∧ s.decActive = true ∧
    s.xpErr = some .readFail ∧ s.lockOwner = some 1 :=
  ⟨{ moving [.own] (receiving [] State.reset) with xpErr := some .readFail }, ⟨by decide, rfl⟩, rfl, rfl, rfl, rfl⟩

theorem witness_O34 : ∀ ph ∈ [TPhase.flush, .send, .drain], ∃ s : State, Ready s .own [] ∧ s.tphase = ph ∧
    (s.tphase = .flush ∨ s.tphase = .send ∨ s.tphase = .drain) ∧ s.xpErr = some .writeFail ∧
    s.lockOwner = some 1 := by
  intro ph h
  refine ⟨{ moving [.own] (owned ph State.reset) with xpErr := some .writeFail }, ⟨by cases ph <;> decide, rfl⟩, rfl, ?_,
    rfl, rfl⟩
  simpa [owned, moving] using h

theorem witness_O35 : (receiving [] State.reset).tphase = .recv ∧ (receiving [] State.reset).lockOwner = some 1 :=
  ⟨rfl, rfl⟩
theorem witness_O36 : (receiving [] State.reset).tphase = .recv ∧ (receiving [] State.reset).lockOwner = some 1 :=
  ⟨rfl, rfl⟩

/-- A body of exactly `TX_CAP` bytes, on an open line; one byte longer; the same on a closed line. -/
theorem witness_O37 : ∃ s : State, 1 < s.ports.length ∧ s.lockOwner = none ∧
    (∀ k, s.params.txCap = some k → ([0x7B] : Bytes).length ≤ k) ∧ s.xpOpen = true ∧ s.params.txCap = some 1 :=
  ⟨{ capped (some 1) .idle [] [] [] with xpOpen := true }, by decide, rfl, by simp [capped], rfl, rfl⟩
theorem witness_O38 : ∃ s : State, 1 < s.ports.length ∧ s.lockOwner = none ∧ s.xpOpen = false ∧
    s.params.txCap = some 1 ∧ (1 : Nat) < ([0x7B, 0x7D] : Bytes).length ∧
    (∀ k, s.params.txCap = some k → ([0x7B] : Bytes).length ≤ k) :=
  ⟨capped (some 1) .idle [] [] [], by decide, rfl, rfl, rfl, by decide, by simp [capped]⟩

/-- Another port asks while the lock is held, and the owner's own port asks during its transaction. -/
theorem witness_O39 :
    (∃ s : State, 0 < s.ports.length ∧ s.lockOwner = some 1 ∧ (1 ≠ 0 ∨ s.tphase ≠ .excl)) ∧
    (∃ s : State, 1 < s.ports.length ∧ s.lockOwner = some 1 ∧ (1 ≠ 1 ∨ s.tphase ≠ .excl)) :=
  ⟨⟨owned .excl State.reset, by decide, rfl, by decide⟩, ⟨owned .send State.reset, by decide, rfl, by decide⟩⟩
theorem witness_O40 : 1 < State.reset.ports.length ∧ State.reset.lockOwner = none := ⟨by decide, rfl⟩
theorem witness_O41 : 1 < (owned .excl State.reset).ports.length ∧
    (owned .excl State.reset).lockOwner = some 1 ∧ (owned .excl State.reset).tphase = .excl :=
  ⟨by decide, rfl, rfl⟩
theorem witness_O42 :
    (1 < (owned .excl State.reset).ports.length ∧ (owned .excl State.reset).lockOwner = some 1 ∧
      (owned .excl State.reset).tphase = .excl) ∧
    (0 < (owned .excl State.reset).ports.length ∧ (owned .excl State.reset).lockOwner ≠ some 0) := by decide

/-- The longest timeout on a free port; a port with a request; one with a result; the owner's in flight. -/
theorem witness_O43 :
    (∃ s : State, Ready s (.post 1 0 [] 65535) [] ∧ s.ports[1]? = some Port.afterReset ∧
      (s.lockOwner ≠ some 1 ∨ s.tphase = .excl) ∧ 65535 < 2 ^ s.params.tw) ∧
    Port.afterReset.reqValid = false ∧ Port.afterReset.resValid = false ∧
    (∃ s : State, Ready s (.post 1 0 [] 0) [] ∧ s.ports[1]? = some (requesting 0)) ∧
    (requesting 0).reqValid = true ∧
    (∃ s : State, Ready s (.post 1 0 [] 0) [] ∧ s.ports[1]? = some answering) ∧ answering.resValid = true ∧
    (∃ s : State, Ready s (.post 1 0 [] 0) [] ∧ s.ports[1]? = some Port.afterReset ∧ s.lockOwner = some 1 ∧
      s.tphase ≠ .excl) := by
  refine ⟨⟨moving [.post 1 0 [] 65535] State.reset, ⟨by decide, rfl⟩, rfl, by decide, by decide⟩, rfl, rfl,
    ⟨moving [.post 1 0 [] 0] { State.reset with ports := [Port.afterReset, requesting 0] }, ⟨by decide, rfl⟩, rfl⟩,
    rfl, ⟨moving [.post 1 0 [] 0] { State.reset with ports := [Port.afterReset, answering] }, ⟨by decide, rfl⟩, rfl⟩,
    rfl, ⟨moving [.post 1 0 [] 0] (owned .send State.reset), ⟨by decide, rfl⟩, rfl, rfl, by decide⟩⟩

theorem witness_O44 : ∃ s : State, Ready s (.collect 1) [] ∧ s.ports[1]? = some answering ∧
    answering.resValid = true :=
  ⟨moving [.collect 1] { State.reset with ports := [Port.afterReset, answering] }, ⟨by decide, rfl⟩, rfl, rfl⟩
theorem witness_O45 : (owned .flush State.reset).tphase = .flush := rfl

/-- Two bytes of a frame left to send. -/
theorem witness_O46 : ∃ s : State, configOk s = true ∧ s.tphase = .send ∧ s.xpErr = none ∧
    s.txIdx < s.txFrame.length ∧ s.schedule = List.replicate (s.txFrame.length - s.txIdx) .own ++ [.tick] :=
  ⟨moving [.own, .own, .tick] { owned .send State.reset with txFrame := [0x01, 0x43, 0x04], txIdx := 1 },
    by decide, rfl, rfl, by decide, rfl⟩

theorem witness_O47 : ∀ d : Bool, ∃ s : State, Ready s .own [] ∧ s.tphase = .drain ∧ s.xpErr = none ∧
    s.decActive = false ∧ s.txDrained = d := fun d =>
  ⟨{ moving [.own] (owned .drain State.reset) with txDrained := d }, ⟨by cases d <;> decide, rfl⟩, rfl, rfl, rfl, rfl⟩
theorem witness_O48 : Ready (moving [.rst] (receiving [0x01] (inState .inBody [0x41] [] []))) .rst [] :=
  ⟨by decide, rfl⟩

/-- A transaction of the last port with half a frame received. -/
theorem inv_receiving : Inv (moving [.own] (receiving [0x7D] (inState .inBody [0x52] [0x7B] []))) := by
  refine ⟨by decide, ?_, by decide, ?_, by decide, by decide, by decide, by decide, by decide, by decide,
    by decide, by decide, by decide, by decide, by decide, by decide, by decide, by decide, ?_⟩
  · constructor <;> first | decide | (intro n h; exact absurd h (by simp [moving, receiving, owned, inState,
      State.reset, State.resetWith, Params.ofReset]))
  · intro p h; cases h; decide
  · intro p h _; cases h; decide

theorem witness_O51 : ∃ s t : State, Inv s ∧ step s = .next t ∧ t ≠ s :=
  ⟨_, _, inv_receiving, rfl, by decide +kernel⟩
theorem witness_O52 : ∃ s : State, Inv s ∧ s.schedule = [.own] := ⟨_, inv_receiving, rfl⟩
theorem witness_O53 :
    encode (.bodyPrint_20_3F 0b11111) = some (.rx .inBody 0x3F) ∧ encode (.release 1) = some (.req 1 3 [] 0) ∧
    encode .headerCmd = some (.sentHeader hdrCMD) := by decide +kernel

/-- An object with `result`; one with an `error` of the right shape; one whose code is no integer. -/
theorem witness_O55 :
    member (.obj (.cons keyResult .null .nil)) keyResult = some .null ∧
    (∃ e : JsonValue, member (.obj (.cons keyError e .nil)) keyResult = none ∧
      member (.obj (.cons keyError e .nil)) keyError = some e ∧ member e keyCode = some (.num (-27)) ∧
      member e keyMessage = some (.str []) ∧ (-27 : Rat).den = 1) ∧
    (member (.bool true) keyResult = none ∧ member (.bool true) keyError = none) ∧
    (∃ e : JsonValue, member (.obj (.cons keyError e .nil)) keyResult = none ∧
      member (.obj (.cons keyError e .nil)) keyError = some e ∧
      ∀ (q : Rat) (m : Text), ¬ (member e keyCode = some (.num q) ∧ member e keyMessage = some (.str m) ∧
        q.den = 1)) := by
  refine ⟨rfl, ⟨.obj (.cons keyCode (.num (-27)) (.cons keyMessage (.str []) .nil)), rfl, rfl, rfl, rfl, rfl⟩,
    ⟨rfl, rfl⟩, ⟨.str [], rfl, rfl, ?_⟩⟩
  intro q m h
  exact absurd h.1 (by simp [member])

theorem witness_O56 : ∃ s t : State, Ready s .own [] ∧ Move.own ≠ .rst ∧ step s = .next t ∧ t.evlog ≠ s.evlog :=
  ⟨lastByte [0x41] zeros, _, ⟨by decide, rfl⟩, by decide, rfl, by decide +kernel⟩
theorem witness_O57 : ∃ s t : State, Ready s .own [] ∧ step s = .next t ∧ t.rxFifo ≠ s.rxFifo :=
  ⟨moving [.own] (receiving [0x01] State.reset), _, ⟨by decide, rfl⟩, rfl, by decide +kernel⟩
theorem witness_O58 : ∃ s t : State, Ready s .own [] ∧ step s = .next t ∧ s.lockOwner = some 1 ∧
    t.lockOwner = none :=
  ⟨lastByte [0x41] [], _, ⟨by decide, rfl⟩, rfl, rfl, by decide +kernel⟩
theorem witness_O59 : ∃ s t : State, Ready s (.take 0) [] ∧ step s = .next t ∧ t.ports[1]? = s.ports[1]? ∧
    t.ports[0]? ≠ s.ports[0]? :=
  ⟨moving [.take 0] { State.reset with ports := [requesting 3, answering] }, _, ⟨by decide, rfl⟩, rfl, rfl,
    by intro h; exact absurd (congrArg (Option.map Port.reqValid) h) (by decide)⟩
theorem witness_O60 : ∃ s t : State, quietStep s ∧ s.tphase.active = true ∧ step s = .next t ∧
    t.rxFifo ≠ s.rxFifo := by
  refine ⟨moving [.own] (receiving [0x01] State.reset), _, ?_, rfl, rfl, by decide +kernel⟩
  intro _ m h; cases h; rfl

end Sys2Proof.Tests
end

section
/-! PROOFS. What a decoder step can do, said once (`DecoderStep`), and the parser invariants of R25. -/

namespace Sys2Proof.Proofs

open Sys2Proof Sys2Proof.Machine Sys2Proof.Claims Sys2Proof.Laws

/-- All that a received byte can make of the parser (R138, R160), with the guard of each case: `q` before,
the last argument after. -/
inductive ParserStep (c : Params) (q : Parser) (b : Byte) : Parser → Prop
  | skip (hidle : q.pstate = .idle) : ParserStep c q b q
  | abandon (hbusy : q.pstate ≠ .idle) : ParserStep c q b Parser.empty
  | openHeader (hst : q.pstate = .idle ∨ q.pstate = .inHeader) :
      ParserStep c q b { q with pstate := .inHeader, hdrBuf := [] }
  | startOver (hst : q.pstate = .inBody ∨ q.pstate = .inCrc) :
      ParserStep c q b { pstate := .inHeader, hdrBuf := [], bodyBuf := [], crcBuf := [] }
  | openBody (hbusy : q.pstate ≠ .idle) : ParserStep c q b { q with pstate := .inBody, bodyBuf := [] }
  | openCrc (hbusy : q.pstate ≠ .idle) : ParserStep c q b { q with pstate := .inCrc, crcBuf := [] }
  | headerByte (hst : q.pstate = .inHeader) (hb : isPrint b = true)
      (hroom : bufferFull c.hdrCap q.hdrBuf = false) : ParserStep c q b { q with hdrBuf := q.hdrBuf ++ [b] }
  | bodyByte (hst : q.pstate = .inBody) (hb : isPrint b = true)
      (hroom : bufferFull c.bodyCap q.bodyBuf = false) : ParserStep c q b { q with bodyBuf := q.bodyBuf ++ [b] }
  | crcDigit (hst : q.pstate = .inCrc) (hb : isHex b = true)
      (hroom : bufferFull c.crcCap q.crcBuf = false) : ParserStep c q b { q with crcBuf := q.crcBuf ++ [b] }

/-- All that a decoder step can do: the parser moves, the trace grows, and an output is given only with the
parser at rest (R137, R156). -/
def DecoderStep (s : State) (b : Byte) (t : State) : Prop :=
  ∃ q o es, t = { s with parser := q, decOut := o, evlog := s.evlog ++ es } ∧
    ParserStep s.params s.parser b q ∧ (o ≠ .none → q = Parser.empty)

/-- A step that emits nothing and gives nothing out. -/
theorem decoderStep_setParser {s : State} {b : Byte} {q : Parser} (h : ParserStep s.params s.parser b q) :
    DecoderStep s b (setOut .none (setParser q s)) :=
  ⟨q, .none, [], by simp [setOut, setParser], h, by simp⟩

/-- A step that reopens a field (R141, R147, R148, R153 to R155). -/
theorem decoderStep_restart {s : State} {b x : Byte} {st : PState} {q : Parser}
    (h : ParserStep s.params s.parser b q) : DecoderStep s b (restart st x q s) :=
  ⟨q, .none, [.restart st x], rfl, h, by simp⟩

/-- A step that emits an event and returns the parser to rest (R253). -/
theorem decoderStep_reset {s : State} {b : Byte} (o : DecOut) (e : Event) (h : s.parser.pstate ≠ .idle) :
    DecoderStep s b (setOut o (parserReset (emit e s))) :=
  ⟨Parser.empty, o, [e], rfl, .abandon h, fun _ => rfl⟩

/-- A byte stored where there is room, or the overflow of R160. -/
theorem decoderStep_append {s : State} {b : Byte} {q : Parser} {cap : Option Nat} {buf : Bytes}
    (which : Buffer) (hbusy : s.parser.pstate ≠ .idle)
    (h : bufferFull cap buf = false → ParserStep s.params s.parser b q) :
    DecoderStep s b (if bufferFull cap buf then overflow which s else setOut .none (setParser q s)) := by
  by_cases hfull : bufferFull cap buf = true
  · rw [if_pos hfull]
    exact decoderStep_reset _ _ hbusy
  · rw [if_neg hfull]
    exact decoderStep_setParser (h (by simpa using hfull))

/-- Every byte a header or body step stores is of the permitted range (R85, R138). -/
theorem isPrint_of_stepOf {st : PState} {b : Byte} (h : stepOf st b = .hdrPrint ∨ stepOf st b = .bodyPrint) :
    isPrint b = true := by
  cases st <;> revert b <;> decide +kernel

/-- Every byte a CRC step stores is a digit (R88, R138). -/
theorem isHex_of_stepOf {st : PState} {b : Byte} (h : stepOf st b = .crcHex) : isHex b = true := by
  cases st <;> revert b <;> decide +kernel

/-- The inversion of the decoder: a received byte makes a `DecoderStep`, whatever its row. -/
theorem decoderStep_of_exec {s t : State} {b : Byte} (h : exec (decodeRx s.parser.pstate b) s = .next t) :
    DecoderStep s b t := by
  rw [exec_decodeRx] at h
  cases hn : stepOf s.parser.pstate b <;> rw [hn] at h <;> obtain ⟨hst, rfl⟩ := inPState_eq_next_iff.1 h
  case idleSkip => exact decoderStep_setParser (.skip hst)
  case idleSoh => exact decoderStep_setParser (.openHeader (.inl hst))
  case hdrOther => exact decoderStep_reset _ _ (by simp [hst])
  case hdrSoh => exact decoderStep_restart (by simpa [hst] using ParserStep.openHeader (.inr hst))
  case hdrStx => exact decoderStep_setParser (.openBody (by simp [hst]))
  case hdrEtx => exact decoderStep_setParser (.openCrc (by simp [hst]))
  case hdrEot => exact decoderStep_reset _ _ (by simp [hst])
  case hdrPrint =>
    exact decoderStep_append .hdr (by simp [hst]) (.headerByte hst (isPrint_of_stepOf (.inl hn)))
  case bodyOther => exact decoderStep_reset _ _ (by simp [hst])
  case bodySoh => exact decoderStep_restart (.startOver (.inl hst))
  case bodyStx => exact decoderStep_restart (by simpa [hst] using ParserStep.openBody (by simp [hst]))
  case bodyEtx => exact decoderStep_setParser (.openCrc (by simp [hst]))
  case bodyEot => exact decoderStep_reset _ _ (by simp [hst])
  case bodyPrint =>
    exact decoderStep_append .body (by simp [hst]) (.bodyByte hst (isPrint_of_stepOf (.inr hn)))
  case crcNonhex => exact decoderStep_reset _ _ (by simp [hst])
  case crcSoh => exact decoderStep_restart (.startOver (.inr hst))
  case crcStx => exact decoderStep_restart (.openBody (by simp [hst]))
  case crcEtx => exact decoderStep_restart (by simpa [hst] using ParserStep.openCrc (by simp [hst]))
  case crcEot =>
    obtain ⟨-, heq⟩ | ⟨-, heq⟩ := complete_cases s <;> rw [heq] <;>
      exact decoderStep_reset _ _ (by simp [hst])
  case crcHex => exact decoderStep_append .crc (by simp [hst]) (.crcDigit hst (isHex_of_stepOf hn))

/-- INV1 and INV2 are kept by whatever a byte makes of the parser (R25). -/
theorem ParserStep.inv12 {c : Params} {q q' : Parser} {b : Byte} (h : ParserStep c q b q') (hq : Inv12 q) :
    Inv12 q' := by
  obtain ⟨hidle, hheader⟩ := hq
  cases h with
  | skip _ => exact ⟨hidle, hheader⟩
  | abandon _ => exact ⟨fun _ => ⟨rfl, rfl, rfl⟩, nofun⟩
  | openHeader hst =>
    refine ⟨nofun, fun _ => ?_⟩
    rcases hst with hst | hst
    · exact (hidle hst).2
    · exact hheader hst
  | startOver _ => exact ⟨nofun, fun _ => ⟨rfl, rfl⟩⟩
  | openBody _ => exact ⟨nofun, nofun⟩
  | openCrc _ => exact ⟨nofun, nofun⟩
  | headerByte hst _ _ => exact ⟨by simp [hst], fun _ => hheader hst⟩
  | bodyByte hst _ _ => simp [Inv12, hst]
  | crcDigit hst _ _ => simp [Inv12, hst]

/-- INV4 (R25): the CRC field is empty where it is entered, and where ETX restarts it. -/
theorem ParserStep.crcBuf_nil {c : Params} {q q' : Parser} {b : Byte} (h : ParserStep c q b q')
    (hcrc : q'.pstate = .inCrc) (hentry : q.pstate ≠ .inCrc ∨ b = 0x03) : q'.crcBuf = [] := by
  cases h with
  | openCrc _ => rfl
  | crcDigit hst hb _ =>
    obtain hne | rfl := hentry
    · exact absurd hst hne
    · exact absurd hb (by decide)
  | skip hidle => simp [hidle] at hcrc
  | headerByte hst _ _ => simp [hst] at hcrc
  | bodyByte hst _ _ => simp [hst] at hcrc
  | abandon _ => rfl
  | startOver _ => rfl
  | openHeader _ => cases hcrc
  | openBody _ => cases hcrc

/-- Settles O15, from the inversion of the decoder. -/
theorem parserInvariantsHold : Obligations.ParserInvariantsHold := by
  refine ⟨fun c n => ⟨fun _ => ⟨rfl, rfl, rfl⟩, fun _ => ⟨rfl, rfl⟩⟩, ?kept, ?entry⟩
  case kept =>
    intro s t b hs h
    obtain ⟨q, o, es, rfl, hq, -⟩ := decoderStep_of_exec h
    exact hq.inv12 hs
  case entry =>
    intro s t b h hcrc hentry
    obtain ⟨q, o, es, rfl, hq, -⟩ := decoderStep_of_exec h
    exact hq.crcBuf_nil hcrc hentry

end Sys2Proof.Proofs
end

section
/-! PROOFS. What a step can do, said once for each kind of move: `OwnStep` for the sequencer's own step,
`TakeStep` for the taking of a request, `EnvStep` for the environment's moves, and `MoveStep` for all. -/

namespace Sys2Proof.Proofs

open Sys2Proof Sys2Proof.Machine Sys2Proof.Claims Sys2Proof.Laws

/-- The state a `DECODE` leaves when it ends (R173, R175 to R177): the parser is at rest and no `DECODE`
runs. -/
def decodeEnded (o : DecOut) (d : Option DecodeResult) (es : List Event) (fifo : Bytes) (s : State) : State :=
  { s with
    parser := Parser.empty, decActive := false, decOut := o, decResult := d, evlog := s.evlog ++ es,
    rxFifo := fifo }

/-- All that the sequencer's own step can do (R191 to R195, R213), with the guard of each case. -/
inductive OwnStep (s : State) : State → Prop
  | waits : OwnStep s s
  | loads (hph : s.tphase = .flush) (hx : s.xpErr = none) :
      OwnStep s { rxFlush s with txFrame := encodeFrame hdrCMD s.curBody, txIdx := 0, tphase := .send }
  | sends (b : Byte) (hph : s.tphase = .send) (hx : s.xpErr = none) (hb : s.txFrame[s.txIdx]? = some b) :
      OwnStep s { txPush b s with
        txIdx := s.txIdx + 1, tphase := if s.txIdx + 1 = s.txFrame.length then .drain else .send }
  | listens (hph : s.tphase = .drain) (hx : s.xpErr = none) (hd : s.txDrained = true)
      (hidle : s.decActive = false) : OwnStep s { decodeStart s.curTimeout s with tphase := .recv }
  | takesByte (b : Byte) (fifo : Bytes) (q : Parser) (es : List Event) (hph : s.tphase = .recv)
      (hrun : s.decActive = true) (hf : s.rxFifo = b :: fifo) (hq : ParserStep s.params s.parser b q) :
      OwnStep s { s with parser := q, decOut := .none, evlog := s.evlog ++ es, rxFifo := fifo }
  | fails (e : XpErr) (hph : s.tphase.active = true) (hne : s.tphase ≠ .recv) (hx : s.xpErr = some e) :
      OwnStep s (finish (xpErrResult e s) (parserReset s))
  | ends (r : Result) (o : DecOut) (d : Option DecodeResult) (es : List Event) (fifo : Bytes)
      (hph : s.tphase = .recv) (hrun : s.decActive = true)
      (hf : fifo = s.rxFifo ∨ ∃ b, s.rxFifo = b :: fifo) : OwnStep s (finish r (decodeEnded o d es fifo s))

/-- The frame a `DECODE` has given always finishes the transaction (R200 to R203). -/
theorem frameEnd_eq_next {h body : Bytes} {s t : State} (hn : frameEnd h body s = .next t) :
    ∃ r, t = finish r (decodeEnd (.frame h body) s) := by
  simp only [frameEnd, decode, decodeRxFrame] at hn
  split at hn
  · simp only [runDecoded, exec, execHeaderResp] at hn
    split at hn
    · exact ⟨_, (Host.Outcome.next.inj hn).symm⟩
    · cases hn
  · split at hn
    · simp only [runDecoded, exec, execHeaderErr] at hn
      split at hn
      · exact ⟨_, (Host.Outcome.next.inj hn).symm⟩
      · cases hn
    · exact ⟨_, (Host.Outcome.next.inj hn).symm⟩

/-- The byte step goes on with the `DECODE`, or ends it and the transaction (R174 to R176). -/
theorem ownStep_of_byteStep {s t : State} {b : Byte} {fifo : Bytes} (hph : s.tphase = .recv)
    (hrun : s.decActive = true) (hf : s.rxFifo = b :: fifo) (h : byteStep b s = .next t) : OwnStep s t := by
  obtain ⟨u, hu, hafter⟩ := andThen_eq_next_iff.1 h
  obtain ⟨q, o, es, rfl, hq, ho⟩ := decoderStep_of_exec (s := rxDrop s) hu
  have hdrop : rxDrop s = { s with rxFifo := fifo } := by simp [rxDrop, hf]
  rw [hdrop] at hq hafter
  cases o with
  | none =>
    obtain rfl := Host.Outcome.next.inj hafter
    exact .takesByte b fifo q es hph hrun hf hq
  | frame hd body =>
    obtain rfl := ho nofun
    obtain ⟨r, rfl⟩ := frameEnd_eq_next hafter
    exact .ends r _ _ es fifo hph hrun (.inr ⟨b, hf⟩)
  | crcFail =>
    obtain rfl := ho nofun
    obtain rfl := Host.Outcome.next.inj hafter
    exact .ends _ _ _ es fifo hph hrun (.inr ⟨b, hf⟩)

/-- All that a running `DECODE` can do in the receive phase (R173, R174, R177). -/
theorem ownStep_of_recvStep {s t : State} (hph : s.tphase = .recv) (h : recvStep s = .next t) :
    OwnStep s t := by
  unfold recvStep at h
  by_cases hrun : s.decActive = true
  · rw [if_pos hrun] at h
    split at h
    next r _ =>
      obtain rfl := Host.Outcome.next.inj h
      have hend : decodeEnd (.transportError r) (parserReset s)
          = decodeEnded s.decOut (some (.transportError r)) [] s.rxFifo s := by
        simp [decodeEnd, parserReset, setParser, decodeEnded]
      rw [recvFail, hend]
      exact .ends _ _ _ _ _ hph hrun (.inl rfl)
    next =>
      by_cases hexp : timerExpired s = true
      · rw [if_pos hexp] at h
        obtain rfl := Host.Outcome.next.inj h
        exact .ends _ s.decOut (some .timeout) [.decodeTimeout] s.rxFifo hph hrun (.inl rfl)
      · rw [if_neg hexp] at h
        split at h
        next =>
          obtain rfl := Host.Outcome.next.inj h
          exact .waits
        next b fifo hf => exact ownStep_of_byteStep hph hrun hf h
  · rw [if_neg hrun] at h
    obtain rfl := Host.Outcome.next.inj h
    exact .waits

/-- In an active phase outside `T_Recv` a Transport failure comes before the phase's own step (R213). -/
theorem ownStep_of_unlessXpErr {s t : State} {k : Answer} (hph : s.tphase.active = true)
    (hne : s.tphase ≠ .recv) (hk : s.xpErr = none → k = .next t → OwnStep s t)
    (h : unlessXpErr s k = .next t) : OwnStep s t := by
  unfold unlessXpErr at h
  split at h
  next e he =>
    obtain rfl := Host.Outcome.next.inj h
    exact .fails e hph hne he
  next he => exact hk he h

/-- The inversion of the sequencer's own step. -/
theorem ownStep_of_sequencerStep {s t : State} (h : sequencerStep s = .next t) : OwnStep s t := by
  unfold sequencerStep at h
  split at h
  next => obtain rfl := Host.Outcome.next.inj h; exact .waits
  next hph =>
    refine ownStep_of_unlessXpErr (by simp [hph, TPhase.active]) (by simp [hph]) (fun hx hk => ?_) h
    have hload : execHeaderCmd s = .next t := hk
    rw [execHeaderCmd, if_pos hph] at hload
    obtain rfl := Host.Outcome.next.inj hload
    exact .loads hph hx
  next hph =>
    refine ownStep_of_unlessXpErr (by simp [hph, TPhase.active]) (by simp [hph]) (fun hx hk => ?_) h
    obtain rfl := Host.Outcome.next.inj hk
    cases hb : s.txFrame[s.txIdx]? with
    | none => rw [sendByte, hb]; exact .waits
    | some b => rw [sendByte_of_byte hb, hph]; exact .sends b hph hx hb
  next hph =>
    refine ownStep_of_unlessXpErr (by simp [hph, TPhase.active]) (by simp [hph]) (fun hx hk => ?_) h
    unfold drainStep at hk
    split at hk
    next hd =>
      obtain ⟨u, hu, hk⟩ := andThen_eq_next_iff.1 hk
      simp only [exec, execDecode] at hu
      split at hu
      · cases hu
      next hrun =>
        obtain rfl := Host.Outcome.next.inj hu
        obtain rfl := Host.Outcome.next.inj hk
        exact .listens hph hx hd (by simpa using hrun)
    next => obtain rfl := Host.Outcome.next.inj hk; exact .waits
  next hph => exact ownStep_of_recvStep hph h
  next => obtain rfl := Host.Outcome.next.inj h; exact .waits
  next => cases h
  next => cases h

/-- All that the taking of port `p`'s request can do (R187 to R190, R209 to R212); `k` is the port. -/
inductive TakeStep (p : Nat) (s : State) : State → Prop
  | waits : TakeStep p s s
  | answers (k : Port) (o : TxOutcome) (d : BitVec 3) (hk : portAt p s = some k) (hreq : k.reqValid = true) :
      TakeStep p s (answerRequest p o d s)
  | acquires (k : Port) (op : HostOp) (hk : portAt p s = some k) (hreq : k.reqValid = true)
      (hfree : s.lockOwner = none) (hop : op = .cmd ∨ op = .cmdNr)
      (hlen : bodyTooLong s.params k.req.body = false) (hopen : s.xpOpen = true) :
      TakeStep p s (acquire op p k.req.body k.req.timeout s)
  | grants (k : Port) (hk : portAt p s = some k) (hreq : k.reqValid = true) (hfree : s.lockOwner = none) :
      TakeStep p s (grantHold p s)
  | releases (k : Port) (hk : portAt p s = some k) (hreq : k.reqValid = true) (hold : holds p s = true) :
      TakeStep p s (releaseLock (answerRequest p .granted diagNone s))

/-- A request for the lock is answered at once, waits, or goes on as `g` says. -/
theorem takeStep_of_requestLock {p : Nat} {s : State} {k : Port} {g : State → State}
    (hk : portAt p s = some k) (hreq : k.reqValid = true) (hg : s.lockOwner = none → TakeStep p s (g s)) :
    TakeStep p s (requestLock p g s) := by
  obtain ⟨-, heq⟩ | ⟨-, hfree, heq⟩ | ⟨-, -, heq⟩ := requestLock_cases p g s <;> rw [heq]
  · exact .answers k _ _ hk hreq
  · exact hg hfree
  · exact .waits

/-- A `CMD` or `CMD_NR` that finds the lock free acquires it or is answered at once. -/
theorem takeStep_of_startTransaction {p : Nat} {s : State} {k : Port} {op : HostOp}
    (hk : portAt p s = some k) (hreq : k.reqValid = true) (hop : op = .cmd ∨ op = .cmdNr)
    (hfree : s.lockOwner = none) :
    TakeStep p s (startTransaction op p k.req.body k.req.timeout s) := by
  obtain ⟨-, heq⟩ | ⟨hlen, hopen, heq⟩ | ⟨-, -, heq⟩ :=
    startTransaction_cases op p k.req.body k.req.timeout s <;> rw [heq]
  · exact .answers k _ _ hk hreq
  · exact .acquires k op hk hreq hfree hop hlen hopen
  · exact .answers k _ _ hk hreq

/-- Running a request record is a `TakeStep`, whatever its operation. -/
theorem takeStep_of_exec {p : Nat} {s t : State} {k : Port} (hk : portAt p s = some k)
    (hreq : k.reqValid = true) (h : exec (decodeReq p k.req.op k.req.body k.req.timeout) s = .next t) :
    TakeStep p s t := by
  unfold decodeReq at h
  split at h <;> obtain ⟨-, rfl⟩ := onPort_eq_next_iff.1 h
  next => exact takeStep_of_requestLock hk hreq (takeStep_of_startTransaction hk hreq (.inl rfl))
  next => exact takeStep_of_requestLock hk hreq (takeStep_of_startTransaction hk hreq (.inr rfl))
  next => exact takeStep_of_requestLock hk hreq (.grants k hk hreq)
  next =>
    by_cases hold : holds p s = true
    · rw [if_pos hold]; exact .releases k hk hreq hold
    · rw [if_neg hold]; exact .answers k _ _ hk hreq

/-- The inversion of the taking of a request. -/
theorem takeStep_of_takeRequest {p : Nat} {s t : State} (h : takeRequest p s = .next t) : TakeStep p s t := by
  unfold takeRequest at h
  split at h
  · cases h
  · split at h
    next k hk =>
      by_cases hreq : k.reqValid = true
      · rw [if_pos hreq] at h
        exact takeStep_of_exec hk hreq h
      · rw [if_neg hreq] at h
        obtain rfl := Host.Outcome.next.inj h
        exact .waits
    next =>
      obtain rfl := Host.Outcome.next.inj h
      exact .waits

/-- The fields a move of the environment can write (R40, R42, R43, R172, R185, R186). -/
def external (n : Nat) (ps : List Port) (fifo : Bytes) (xo : Bool) (xe : Option XpErr) (td : Bool)
    (c : Option (Nat × Result)) (s : State) : State :=
  { s with
    decTimer := n, ports := ps, rxFifo := fifo, xpOpen := xo, xpErr := xe, txDrained := td, collected := c }

/-- All that a move of the environment can do. -/
def EnvStep (m : Move) (s t : State) : Prop :=
  ∃ n ps fifo xo xe td c, t = external n ps fifo xo xe td c s ∧
    (fifo = s.rxFifo ∨ (∃ b, m = .rxArrive b ∧ fifo = s.rxFifo ++ [b]) ∨
      (∃ k, m = .rxLose k ∧ fifo = s.rxFifo.eraseIdx k)) ∧
    ∀ p, ps[p]? = s.ports[p]? ∨ (∃ op B n, m = .post p op B n) ∨ m = .collect p

/-- A move that touches neither the backlog nor a port. -/
theorem EnvStep.of_quiet (m : Move) (n : Nat) (xo : Bool) (xe : Option XpErr) (td : Bool) (s : State) :
    EnvStep m s { s with decTimer := n, xpOpen := xo, xpErr := xe, txDrained := td } :=
  ⟨n, s.ports, s.rxFifo, xo, xe, td, s.collected, rfl, .inl rfl, fun _ => .inl rfl⟩

/-- A move that changes the records of one port, its own. -/
theorem EnvStep.of_port {m : Move} {p : Nat} (f : Port → Port) (c : Option (Nat × Result)) (s : State)
    (hm : (∃ op B n, m = .post p op B n) ∨ m = .collect p) :
    EnvStep m s { modifyPort p f s with collected := c } := by
  refine ⟨s.decTimer, s.ports.modify p f, s.rxFifo, s.xpOpen, s.xpErr, s.txDrained, c, rfl, .inl rfl,
    fun p' => ?_⟩
  by_cases h : p = p'
  · exact .inr (h ▸ hm)
  · exact .inl (portAt_modifyPort_ne h f s)

/-- All that a step can do, whatever the move. -/
inductive MoveStep (s : State) : Move → State → Prop
  | own {t : State} (h : OwnStep s t) : MoveStep s .own t
  | take {p : Nat} {t : State} (h : TakeStep p s t) : MoveStep s (.take p) t
  | env {m : Move} {t : State} (h : EnvStep m s t) : MoveStep s m t
  | rst : MoveStep s .rst (blockReset s)

/-- The inversion of a move. -/
theorem moveStep_of_applyMove {m : Move} {s t : State} (h : applyMove m s = .next t) : MoveStep s m t := by
  cases m with
  | own => exact .own (ownStep_of_sequencerStep h)
  | take p => exact .take (takeStep_of_takeRequest h)
  | tick =>
    obtain rfl := Host.Outcome.next.inj h
    obtain ⟨-, -, heq⟩ | ⟨-, heq⟩ := tick_cases s <;> rw [heq]
    · exact .env (.of_quiet _ (s.decTimer - 1) _ _ _ s)
    · exact .env (.of_quiet _ _ _ _ _ s)
  | rxArrive b =>
    obtain rfl := Host.Outcome.next.inj h
    exact .env ⟨_, _, _, _, _, _, _, rfl, .inr (.inl ⟨b, rfl, rfl⟩), fun _ => .inl rfl⟩
  | rxLose k =>
    obtain rfl := Host.Outcome.next.inj h
    exact .env ⟨_, _, _, _, _, _, _, rfl, .inr (.inr ⟨k, rfl, rfl⟩), fun _ => .inl rfl⟩
  | xpOpen v => obtain rfl := Host.Outcome.next.inj h; exact .env (.of_quiet _ _ v _ _ s)
  | xpErr e => obtain rfl := Host.Outcome.next.inj h; exact .env (.of_quiet _ _ _ e _ s)
  | txDrained v => obtain rfl := Host.Outcome.next.inj h; exact .env (.of_quiet _ _ _ _ v s)
  | reconfigure => obtain rfl := Host.Outcome.next.inj h; exact .env (.of_quiet _ _ _ _ _ s)
  | post p op body n =>
    obtain rfl := Host.Outcome.next.inj h
    obtain ⟨-, -, heq⟩ | ⟨-, heq⟩ := hostPost_cases p op body n s <;> rw [heq]
    · exact .env (.of_port _ s.collected s (.inl ⟨op, body, n, rfl⟩))
    · exact .env (.of_quiet _ _ _ _ _ s)
  | collect p =>
    obtain rfl := Host.Outcome.next.inj h
    obtain ⟨k, -, -, heq⟩ | ⟨-, heq⟩ := hostCollect_cases p s <;> rw [heq]
    · exact .env (.of_port _ _ s (.inr rfl))
    · exact .env (.of_quiet _ _ _ _ _ s)
  | rst => obtain rfl := Host.Outcome.next.inj h; exact .rst

/-- The inversion of a step whose move is known. -/
theorem moveStep_of_step {s t : State} {m : Move} {rest : List Move} (hr : Ready s m rest)
    (h : step s = .next t) : MoveStep { s with schedule := rest } m t := by
  rw [step_of_move hr.1 hr.2] at h
  exact moveStep_of_applyMove h

end Sys2Proof.Proofs
end

section
/-! PROOFS. What every step keeps of the trace, the streams, the lock and the ports (R28, R30, R35, R36, R40,
R41): one lemma per kind of move, then the statements. -/

namespace Sys2Proof.Proofs

open Sys2Proof Sys2Proof.Machine Sys2Proof.Claims Sys2Proof.Laws

section Trace

/-- The sequencer's step only appends to the trace. -/
theorem OwnStep.evlog_append {s t : State} (h : OwnStep s t) : ∃ es, t.evlog = s.evlog ++ es := by
  cases h with
  | takesByte b fifo q es => exact ⟨es, rfl⟩
  | ends r o d es fifo => exact ⟨es, by simp [decodeEnded]⟩
  | waits | loads | sends | listens | fails => exact ⟨[], by simp⟩

/-- Taking a request writes no event. -/
theorem TakeStep.evlog_eq {p : Nat} {s t : State} (h : TakeStep p s t) : t.evlog = s.evlog := by
  cases h <;> simp

/-- Settles O56: every kind of move but `rst` appends to the trace or leaves it. -/
theorem traceOnlyGrows : Obligations.TraceOnlyGrows := by
  intro s t m rest hr hm h
  cases moveStep_of_step hr h with
  | own h => exact h.evlog_append
  | take h => exact ⟨[], by simp [h.evlog_eq]⟩
  | env h =>
    obtain ⟨n, ps, fifo, xo, xe, td, c, rfl, -⟩ := h
    exact ⟨[], (List.append_nil _).symm⟩
  | rst => exact absurd rfl hm

end Trace

section Streams

/-- The sequencer pushes only in `T_Send`, and there the next byte of the frame (R193). -/
theorem OwnStep.txWire_cases {s t : State} (h : OwnStep s t) : t.txWire = s.txWire ∨
    (s.tphase = .send ∧ ∃ b, s.txFrame[s.txIdx]? = some b ∧ t.txWire = s.txWire ++ [b]) := by
  cases h with
  | sends b hph hx hb => exact .inr ⟨hph, b, hb, rfl⟩
  | waits | loads | listens | takesByte | fails | ends => exact .inl (by simp [decodeEnded])

/-- The sequencer empties the backlog only in `T_Flush` and pops it only in `T_Recv` (R174, R191). -/
theorem OwnStep.rxFifo_cases {s t : State} (h : OwnStep s t) : t.rxFifo = s.rxFifo ∨
    (s.tphase = .flush ∧ t.rxFifo = []) ∨ (s.tphase = .recv ∧ ∃ b, s.rxFifo = b :: t.rxFifo) := by
  cases h with
  | loads hph => exact .inr (.inl ⟨hph, rfl⟩)
  | takesByte b fifo q es hph hrun hf => exact .inr (.inr ⟨hph, b, hf⟩)
  | ends r o d es fifo hph hrun hf =>
    simp only [finish_rxFifo]
    exact hf.imp id fun hb => .inr ⟨hph, hb⟩
  | waits | sends | listens | fails => exact .inl (by simp)

/-- Taking a request touches no stream (R187). -/
theorem TakeStep.streams_eq {p : Nat} {s t : State} (h : TakeStep p s t) :
    t.txWire = s.txWire ∧ t.rxFifo = s.rxFifo := by
  cases h <;> simp

/-- Settles O57, from what each kind of move does to the two streams. -/
theorem streamsAreTouchedOnlyInTheirPhases : Obligations.StreamsAreTouchedOnlyInTheirPhases := by
  intro s t m rest hr h
  cases moveStep_of_step hr h with
  | own h =>
    constructor
    · exact h.txWire_cases.imp id fun hsend => ⟨rfl, hsend⟩
    · obtain heq | hflush | hrecv := h.rxFifo_cases
      · exact .inl heq
      · exact .inr (.inr (.inr (.inl ⟨rfl, hflush⟩)))
      · exact .inr (.inr (.inr (.inr ⟨rfl, hrecv⟩)))
  | take h => exact ⟨.inl h.streams_eq.1, .inl h.streams_eq.2⟩
  | env h =>
    obtain ⟨n, ps, fifo, xo, xe, td, c, rfl, hfifo, -⟩ := h
    obtain heq | harrive | hlose := hfifo
    · exact ⟨.inl rfl, .inl heq⟩
    · exact ⟨.inl rfl, .inr (.inl harrive)⟩
    · exact ⟨.inl rfl, .inr (.inr (.inl hlose))⟩
  | rst => exact ⟨.inl rfl, .inl rfl⟩

end Streams

section Lock

/-- The lock's owner and the latched request are the same in `s` and `t` (R28, R30). -/
def SameLock (s t : State) : Prop :=
  t.lockOwner = s.lockOwner ∧ t.curOp = s.curOp ∧ t.curBody = s.curBody ∧ t.curTimeout = s.curTimeout

/-- The sequencer keeps the lock and the latched request, or gives the lock up (R205). -/
theorem OwnStep.lock_cases {s t : State} (h : OwnStep s t) :
    SameLock s t ∨ (t.lockOwner = none ∧ t.tphase = .idle) := by
  cases h with
  | fails | ends => exact .inr (by simp)
  | waits | loads | sends | listens | takesByte => exact .inl ⟨rfl, rfl, rfl, rfl⟩

/-- Taking a request while the lock is held keeps it, but for the holder's own release (R188, R210,
R211). -/
theorem TakeStep.lock_cases {p p' : Nat} {s t : State} (h : TakeStep p' s t) (hp : s.lockOwner = some p) :
    SameLock s t ∨ (t.lockOwner = none ∧ t.tphase = .idle ∧ p' = p ∧ s.tphase = .excl) := by
  cases h with
  | waits | answers => exact .inl ⟨rfl, rfl, rfl, rfl⟩
  | acquires k op hk hreq hfree => simp [hp] at hfree
  | grants k hk hreq hfree => simp [hp] at hfree
  | releases k hk hreq hold =>
    obtain ⟨howner, hexcl⟩ : p = p' ∧ s.tphase = .excl := by simpa [holds, hp] using hold
    exact .inr ⟨rfl, rfl, howner.symm, hexcl⟩

/-- Settles O58: only a finish, the holder's release or a reset frees a held lock. -/
theorem lockIsLeftOnlyByFinishReleaseOrReset : Obligations.LockIsLeftOnlyByFinishReleaseOrReset := by
  intro s t m rest p hr h hp
  have kept {u : State} (hsame : SameLock { s with schedule := rest } u) :
      u.lockOwner = some p ∧ u.curOp = s.curOp ∧ u.curBody = s.curBody ∧ u.curTimeout = s.curTimeout :=
    ⟨hsame.1.trans hp, hsame.2⟩
  cases moveStep_of_step hr h with
  | own h =>
    obtain hsame | ⟨hnone, hidle⟩ := h.lock_cases
    · exact .inl (kept hsame)
    · exact .inr ⟨hnone, hidle, .inl rfl⟩
  | take h =>
    obtain hsame | ⟨hnone, hidle, rfl, hexcl⟩ := h.lock_cases hp
    · exact .inl (kept hsame)
    · exact .inr ⟨hnone, hidle, .inr (.inl ⟨rfl, hexcl⟩)⟩
  | env h =>
    obtain ⟨n, ps, fifo, xo, xe, td, c, rfl, -⟩ := h
    exact .inl ⟨hp, rfl, rfl, rfl⟩
  | rst => exact .inr ⟨rfl, rfl, .inr (.inr rfl)⟩

end Lock

section Ports

/-- `Finish` writes the records of the lock's owner and of no other port (R205). -/
theorem finish_portAt (r : Result) (s : State) (p : Nat) :
    portAt p (finish r s) = portAt p s ∨ s.lockOwner = some p := by
  cases hown : s.lockOwner with
  | none => exact .inl (by simp [finish, hown, portAt])
  | some p' =>
    by_cases h : p' = p
    · exact .inr (h ▸ rfl)
    · refine .inl ?_
      rw [finish_of_owner hown]
      exact portAt_modifyPort_ne h _ s

/-- An answer writes the records of its own port only. -/
theorem portAt_answerRequest_ne {p p' : Nat} (h : p' ≠ p) (o : TxOutcome) (d : BitVec 3) (s : State) :
    portAt p (answerRequest p' o d s) = portAt p s :=
  (portAt_modifyPort_ne h _ (clearReq p' s)).trans (portAt_modifyPort_ne h _ s)

/-- The sequencer's step writes the records of the lock's owner only (R205). -/
theorem OwnStep.portAt_cases {s t : State} (h : OwnStep s t) (p : Nat) :
    portAt p t = portAt p s ∨ s.lockOwner = some p := by
  cases h with
  | fails e => exact finish_portAt (xpErrResult e s) (parserReset s) p
  | ends r o d es fifo => exact finish_portAt r (decodeEnded o d es fifo s) p
  | waits | loads | sends | listens | takesByte => exact .inl rfl

/-- Taking a request writes the records of its own port only. -/
theorem TakeStep.portAt_ne {p p' : Nat} {s t : State} (h : TakeStep p' s t) (hne : p' ≠ p) :
    portAt p t = portAt p s := by
  cases h with
  | waits => rfl
  | acquires k op => exact portAt_modifyPort_ne hne _ s
  | answers k o d => exact portAt_answerRequest_ne hne o d s
  | grants k | releases k => exact portAt_answerRequest_ne hne .granted diagNone s

/-- Settles O59, from whose records each kind of move writes. -/
theorem portsAreIsolated : Obligations.PortsAreIsolated := by
  intro s t m rest p hr h
  cases moveStep_of_step hr h with
  | own h =>
    obtain heq | howner := h.portAt_cases p
    · exact .inl heq
    · exact .inr (.inr (.inr (.inr (.inl ⟨rfl, howner⟩))))
  | @take p' _ h =>
    by_cases hne : p' = p
    · exact .inr (.inr (.inr (.inl (hne ▸ rfl))))
    · exact .inl (h.portAt_ne hne)
  | env h =>
    obtain ⟨n, ps, fifo, xo, xe, td, c, rfl, -, hps⟩ := h
    obtain heq | hpost | hcollect := hps p
    · exact .inl heq
    · exact .inr (.inl hpost)
    · exact .inr (.inr (.inl hcollect))
  | rst => exact .inr (.inr (.inr (.inr (.inr rfl))))

end Ports

end Sys2Proof.Proofs
end

section
/-! PROOFS. The invariant of the block (Safety.lean): it holds after reset, and every step keeps it. The lemmas
follow the operations: a change of one port's records, the lock given up, then each kind of move. -/

namespace Sys2Proof.Proofs

open Sys2Proof Sys2Proof.Machine Sys2Proof.Claims Sys2Proof.Laws

section Parser

/-- A buffer that is not full has room for one more byte (R160). -/
theorem fits_append {cap : Option Nat} {buf : Bytes} (h : fits cap buf) (hroom : bufferFull cap buf = false)
    (b : Byte) : fits cap (buf ++ [b]) := by
  rintro n rfl
  have hle : buf.length ≤ n := h n rfl
  have hne : buf.length ≠ n := by simpa [bufferFull] using hroom
  simp only [List.length_append, List.length_singleton]
  omega

/-- The empty buffer is within every capacity. -/
theorem fits_nil (cap : Option Nat) : fits cap [] := fun _ _ => Nat.zero_le _

/-- The parser at rest satisfies its invariant (R136). -/
theorem parserInv_empty (c : Params) : Parser.Inv c Parser.empty where
  idle_empty _ := ⟨rfl, rfl, rfl⟩
  header_empty := nofun
  hdr_print := nofun
  body_print := nofun
  crc_hex := nofun
  hdr_fits := fits_nil _
  body_fits := fits_nil _
  crc_fits := fits_nil _

/-- What a predicate says of every byte of a buffer it says of the buffer with one more such byte. -/
theorem forall_mem_append_byte {P : Byte → Bool} {buf : Bytes} {b : Byte} (h : ∀ x ∈ buf, P x = true)
    (hb : P b = true) : ∀ x ∈ buf ++ [b], P x = true := by
  simpa [or_imp, forall_and] using ⟨h, hb⟩

/-- Whatever a byte makes of the parser keeps the parser's invariant (R22 to R25). -/
theorem ParserStep.inv {c : Params} {q q' : Parser} {b : Byte} (h : ParserStep c q b q')
    (hq : Parser.Inv c q) : Parser.Inv c q' := by
  obtain ⟨hidle, hheader⟩ := h.inv12 ⟨hq.idle_empty, hq.header_empty⟩
  cases h with
  | skip _ => exact hq
  | abandon _ => exact parserInv_empty c
  | openHeader _ =>
    exact { hq with idle_empty := hidle, header_empty := hheader, hdr_print := nofun, hdr_fits := fits_nil _ }
  | startOver _ =>
    exact { parserInv_empty c with idle_empty := hidle, header_empty := hheader }
  | openBody _ =>
    exact { hq with idle_empty := hidle, header_empty := hheader, body_print := nofun, body_fits := fits_nil _ }
  | openCrc _ =>
    exact { hq with idle_empty := hidle, header_empty := hheader, crc_hex := nofun, crc_fits := fits_nil _ }
  | headerByte _ hb hroom =>
    exact { hq with
      idle_empty := hidle, header_empty := hheader,
      hdr_print := forall_mem_append_byte hq.hdr_print hb, hdr_fits := fits_append hq.hdr_fits hroom b }
  | bodyByte _ hb hroom =>
    exact { hq with
      idle_empty := hidle, header_empty := hheader,
      body_print := forall_mem_append_byte hq.body_print hb, body_fits := fits_append hq.body_fits hroom b }
  | crcDigit _ hb hroom =>
    exact { hq with
      idle_empty := hidle, header_empty := hheader,
      crc_hex := forall_mem_append_byte hq.crc_hex hb, crc_fits := fits_append hq.crc_fits hroom b }

end Parser

section PortRecords

/-- A configuration stays one of R7's when no parameter and no number of ports changes. -/
theorem configOk_congr {s t : State} (hp : t.params = s.params) (hl : t.ports.length = s.ports.length) :
    configOk t = configOk s := by
  have hempty : t.ports.isEmpty = s.ports.isEmpty := by
    rw [Bool.eq_iff_iff, List.isEmpty_iff_length_eq_zero, List.isEmpty_iff_length_eq_zero, hl]
  rw [configOk, configOk, hp, hempty]

/-- What holds of every port holds after one port is modified to one of which it holds. -/
theorem forall_mem_modify {l : List Port} {P : Port → Prop} {p : Nat} {f : Port → Port}
    (h : ∀ k ∈ l, P k) (hf : ∀ k, l[p]? = some k → P (f k)) : ∀ k ∈ l.modify p f, P k := by
  intro k hk
  obtain ⟨i, hi⟩ := List.mem_iff_getElem?.1 hk
  rw [List.getElem?_modify] at hi
  obtain ⟨k', hk', rfl⟩ := Option.map_eq_some_iff.1 hi
  by_cases hpi : p = i
  · rw [if_pos hpi]; exact hf k' (hpi ▸ hk')
  · rw [if_neg hpi]; exact h k' (List.mem_of_getElem? hk')

/-- A port that is there is one of the block's ports. -/
theorem mem_ports_of_portAt {p : Nat} {s : State} {k : Port} (h : portAt p s = some k) : k ∈ s.ports :=
  List.mem_of_getElem? h

/-- The number of a port that is there is below `NPORTS`. -/
theorem lt_of_portAt {p : Nat} {s : State} {k : Port} (h : portAt p s = some k) : p < s.ports.length :=
  (List.getElem?_eq_some_iff.1 h).1

@[simp] theorem reqValid_of_portAt {p : Nat} {s : State} {k : Port} (h : portAt p s = some k) :
    reqValid p s = k.reqValid := by
  simp [reqValid, h]

@[simp] theorem resValid_of_portAt {p : Nat} {s : State} {k : Port} (h : portAt p s = some k) :
    resValid p s = k.resValid := by
  simp [resValid, h]

/-- The owner of the lock in an active phase has neither a request nor a result pending, read off its
record. -/
theorem owner_record_free {s : State} (h : Inv s) {p : Nat} {k : Port} (ho : s.lockOwner = some p)
    (ha : s.tphase.active = true) (hk : portAt p s = some k) : k.reqValid = false ∧ k.resValid = false := by
  simpa [hk] using h.owner_port_free p ho ha

/-- A change of one port's records keeps the invariant when the new records are allowed ones. -/
theorem inv_modifyPort {s : State} (h : Inv s) {p : Nat} {f : Port → Port}
    (hfit : ∀ k, portAt p s = some k → s.params.timeoutFits (f k).req.timeout = true)
    (hone : ∀ k, portAt p s = some k → (f k).reqValid = true → (f k).resValid = false)
    (hown : ∀ k, portAt p s = some k → s.lockOwner = some p → s.tphase.active = true →
      (f k).reqValid = false ∧ (f k).resValid = false) : Inv (modifyPort p f s) :=
  { h with
    config := (configOk_congr (s := s) (t := modifyPort p f s) rfl (by simp)).trans h.config
    owner_is_port := fun p' ho => by simpa using h.owner_is_port p' ho
    posted_fits := forall_mem_modify h.posted_fits hfit
    one_record := forall_mem_modify h.one_record hone
    owner_port_free := fun p' ho ha => by
      by_cases hp : p = p'
      · subst hp
        cases hk : portAt p s with
        | none => simp [reqValid, resValid, portAt_modifyPort_self, hk]
        | some k => simpa [reqValid, resValid, portAt_modifyPort_self, hk] using hown k hk ho ha
      · simpa [reqValid, resValid, portAt_modifyPort_ne hp] using h.owner_port_free p' ho ha }

/-- A request taken away keeps the invariant. -/
theorem inv_clearReq {s : State} (h : Inv s) (p : Nat) : Inv (clearReq p s) :=
  inv_modifyPort h (fun k hk => h.posted_fits k (mem_ports_of_portAt hk)) nofun
    fun _ hk ho ha => ⟨rfl, (owner_record_free h ho ha hk).2⟩

/-- A result collected keeps the invariant (R186). -/
theorem inv_hostCollect {s : State} (h : Inv s) (p : Nat) : Inv (hostCollect p s) := by
  obtain ⟨k, -, -, heq⟩ | ⟨-, heq⟩ := hostCollect_cases p s <;> rw [heq]
  · exact { inv_modifyPort (p := p) (f := fun q => { q with resValid := false }) h
      (fun k hk => h.posted_fits k (mem_ports_of_portAt hk)) (fun _ _ _ => rfl)
      fun _ hk ho ha => ⟨(owner_record_free h ho ha hk).1, rfl⟩ with }
  · exact h

/-- A request posted keeps the invariant (R185): the port was free, and no transaction of its own in
flight. -/
theorem inv_hostPost {s : State} (h : Inv s) (p : Nat) (op : BitVec 2) (body : Bytes) (n : Nat) :
    Inv (hostPost p op body n s) := by
  obtain ⟨hpost, hfit, heq⟩ | ⟨-, heq⟩ := hostPost_cases p op body n s <;> rw [heq]
  · simp only [canPost, Bool.and_eq_true, Bool.not_eq_true', Bool.or_eq_true, decide_eq_true_eq] at hpost
    obtain ⟨⟨⟨-, -⟩, hres⟩, hown⟩ := hpost
    refine inv_modifyPort h (fun _ _ => hfit) (fun k hk _ => by simpa [hk] using hres) fun k hk ho ha => ?_
    obtain hne | hexcl := hown
    · exact absurd ho hne
    · simp [hexcl, TPhase.active] at ha
  · exact h

/-- A result posted to a port with no request pending and no transaction in flight keeps the invariant. -/
theorem inv_postResult {s : State} (h : Inv s) {p : Nat} (r : Result) (hreq : reqValid p s = false)
    (hown : s.lockOwner = some p → s.tphase.active = false) : Inv (postResult p r s) :=
  { inv_modifyPort (p := p) (f := fun q => { q with res := r, resValid := true }) h
      (fun k hk => h.posted_fits k (mem_ports_of_portAt hk))
      (fun k hk hv => by simp [← reqValid_of_portAt hk, hreq] at hv)
      (fun k hk ho ha => by simp [hown ho] at ha) with }

/-- A port's request that is taken is no longer pending. -/
theorem reqValid_clearReq (p : Nat) (s : State) : reqValid p (clearReq p s) = false := by
  cases hk : portAt p s <;> simp [reqValid, clearReq, portAt_modifyPort_self, hk]

/-- A request answered at once keeps the invariant (R189, R190, R209 to R212). -/
theorem inv_answerRequest {s : State} (h : Inv s) {p : Nat} {k : Port} (hk : portAt p s = some k)
    (hreq : k.reqValid = true) (o : TxOutcome) (d : BitVec 3) : Inv (answerRequest p o d s) := by
  refine inv_postResult (inv_clearReq h p) _ (reqValid_clearReq p s) fun ho => ?_
  by_contra ha
  have hfree := owner_record_free h ho (by simpa using ha) hk
  simp [hreq] at hfree

end PortRecords

section Own

/-- Outside the receive phase no `DECODE` runs. -/
theorem decActive_of_not_recv {s : State} (h : Inv s) (hph : s.tphase ≠ .recv) : s.decActive = false := by
  simpa using mt h.decode_runs.1 hph

/-- Outside the receive phase there is no `DECODE` to end. -/
theorem decodeEnded_self {s : State} (h : Inv s) (hph : s.tphase ≠ .recv) :
    decodeEnded s.decOut s.decResult [] s.rxFifo s = s := by
  have hoff := decActive_of_not_recv h hph
  have hrest := h.parser_at_rest hoff
  cases s
  simp_all [decodeEnded]

/-- The lock is held in every phase but the idle one (R29). -/
theorem lockOwner_ne_none {s : State} (h : Inv s) (hph : s.tphase ≠ .idle) : s.lockOwner ≠ none :=
  mt h.lock_phase.2 hph

/-- The lock given up, the `DECODE` ended (R205, R211). -/
theorem inv_released {s : State} (h : Inv s) (o : DecOut) (d : Option DecodeResult) (es : List Event)
    (fifo : Bytes) : Inv (releaseLock (decodeEnded o d es fifo s)) :=
  { h with
    parser := parserInv_empty _
    lock_phase := ⟨fun _ => rfl, fun _ => rfl⟩
    owner_is_port := nofun
    phase_legal := rfl
    decode_runs := ⟨nofun, nofun⟩
    parser_at_rest := fun _ => rfl
    hold_op := nofun
    latched_op := nofun
    latched_body := nofun
    frame_loaded := nofun
    send_index := nofun
    drain_index := nofun
    timer_within := nofun
    owner_port_free := nofun }

/-- The end of a transaction keeps the invariant (R205). -/
theorem inv_finish {s : State} (h : Inv s) (hph : s.tphase.active = true) (r : Result) (o : DecOut)
    (d : Option DecodeResult) (es : List Event) (fifo : Bytes) : Inv (finish r (decodeEnded o d es fifo s)) := by
  cases ho : s.lockOwner with
  | none => simp [h.lock_phase.2 ho, TPhase.active] at hph
  | some p =>
    rw [finish_of_owner (s := decodeEnded o d es fifo s) ho]
    exact inv_postResult (inv_released h o d es fifo) r (h.owner_port_free p ho hph).1 nofun

/-- A transaction that goes on sending or starts to drain keeps the invariant (R192, R193). -/
theorem inv_transmit {s : State} (h : Inv s) (hact : s.tphase.active = true) (hne : s.tphase ≠ .recv)
    {ph : TPhase} {frame : Bytes} {i : Nat} (hframe : frame = encodeFrame hdrCMD s.curBody)
    (hph : ph = .send ∧ i < frame.length ∨ ph = .drain ∧ i = frame.length) :
    Inv { s with txFrame := frame, txIdx := i, tphase := ph } := by
  have hoff := decActive_of_not_recv h hne
  have howned := lockOwner_ne_none h (by rintro he; simp [he, TPhase.active] at hact)
  obtain ⟨rfl, hi⟩ | ⟨rfl, hi⟩ := hph <;>
    exact { h with
      lock_phase := ⟨nofun, fun ho => absurd ho howned⟩
      phase_legal := rfl
      decode_runs := by simp [hoff]
      hold_op := nofun
      latched_op := fun _ => h.latched_op hact
      latched_body := fun _ => h.latched_body hact
      frame_loaded := fun _ => hframe
      send_index := by simp [hi]
      drain_index := by simp [hi]
      timer_within := nofun
      owner_port_free := fun p ho _ => h.owner_port_free p ho hact }

/-- The `DECODE` started and the receive phase entered keep the invariant (R171, R194). -/
theorem inv_listen {s : State} (h : Inv s) (hph : s.tphase = .drain) :
    Inv { decodeStart s.curTimeout s with tphase := .recv } := by
  have hact : s.tphase.active = true := by simp [hph, TPhase.active]
  have howned := lockOwner_ne_none h (by simp [hph])
  exact { h with
    parser := parserInv_empty _
    lock_phase := ⟨nofun, fun ho => absurd ho howned⟩
    phase_legal := rfl
    decode_runs := ⟨fun _ => rfl, fun _ => rfl⟩
    parser_at_rest := nofun
    hold_op := nofun
    latched_op := fun _ => h.latched_op hact
    latched_body := fun _ => h.latched_body hact
    frame_loaded := nofun
    send_index := nofun
    drain_index := nofun
    timer_fits := h.latched_fits
    timer_within := fun _ => le_rfl
    owner_port_free := fun p ho _ => h.owner_port_free p ho hact }

/-- The sequencer's own step keeps the invariant. -/
theorem OwnStep.inv {s t : State} (hstep : OwnStep s t) (h : Inv s) : Inv t := by
  cases hstep with
  | waits => exact h
  | loads hph hx =>
    have hload := inv_transmit h (by simp [hph, TPhase.active]) (by simp [hph]) (i := 0) rfl
      (.inl ⟨rfl, by simp [encodeFrame]⟩)
    exact { hload with }
  | sends b hph hx hb =>
    have hlt := h.send_index hph
    have hframe := h.frame_loaded (by simp [hph, TPhase.sending])
    have hsend := inv_transmit h (by simp [hph, TPhase.active]) (by simp [hph]) (i := s.txIdx + 1) hframe
      (ph := if s.txIdx + 1 = s.txFrame.length then .drain else .send) (by split <;> simp <;> omega)
    exact { hsend with }
  | listens hph hx hd hidle => exact inv_listen h hph
  | takesByte b fifo q es hph hrun hf hq =>
    exact { h with parser := hq.inv h.parser, parser_at_rest := fun hoff => by simp [hrun] at hoff }
  | fails e hph hne hx =>
    rw [← decodeEnded_self h hne]
    exact inv_finish h hph _ _ _ _ _
  | ends r o d es fifo hph hrun hf => exact inv_finish h (by simp [hph, TPhase.active]) r o d es fifo

end Own

section Take

/-- A `CMD` or `CMD_NR` that acquires the free lock keeps the invariant (R187). -/
theorem inv_acquire {s : State} (h : Inv s) {p : Nat} {k : Port} {op : HostOp} (hk : portAt p s = some k)
    (hreq : k.reqValid = true) (hfree : s.lockOwner = none) (hop : op = .cmd ∨ op = .cmdNr)
    (hlen : bodyTooLong s.params k.req.body = false) : Inv (acquire op p k.req.body k.req.timeout s) := by
  have hmem := mem_ports_of_portAt hk
  have hoff := decActive_of_not_recv h (by simp [h.lock_phase.2 hfree])
  exact { inv_clearReq h p with
    lock_phase := ⟨nofun, nofun⟩
    owner_is_port := fun p' ho => by
      obtain rfl := Option.some.inj ho
      simpa using lt_of_portAt hk
    phase_legal := rfl
    decode_runs := by simp [hoff]
    hold_op := nofun
    latched_op := fun _ => hop
    latched_body := fun _ => hlen
    frame_loaded := nofun
    send_index := nofun
    drain_index := nofun
    latched_fits := h.posted_fits k hmem
    timer_within := nofun
    owner_port_free := fun p' ho _ => by
      obtain rfl := Option.some.inj ho
      refine ⟨reqValid_clearReq p s, ?_⟩
      have hres : resValid p (acquire op p k.req.body k.req.timeout s) = k.resValid := by
        simp [resValid, portAt, show s.ports[p]? = some k from hk]
      rw [hres]
      exact h.one_record k hmem hreq }

/-- The grant of an exclusive hold keeps the invariant (R209). -/
theorem inv_grantHold {s : State} (h : Inv s) {p : Nat} {k : Port} (hk : portAt p s = some k)
    (hreq : k.reqValid = true) (hfree : s.lockOwner = none) : Inv (grantHold p s) := by
  have hoff := decActive_of_not_recv h (by simp [h.lock_phase.2 hfree])
  exact { inv_answerRequest h hk hreq .granted diagNone with
    lock_phase := ⟨nofun, nofun⟩
    owner_is_port := fun p' ho => by
      obtain rfl := Option.some.inj ho
      simpa [grantHold, answerRequest] using lt_of_portAt hk
    phase_legal := rfl
    decode_runs := by simp [hoff]
    hold_op := fun _ => rfl
    latched_op := nofun
    latched_body := nofun
    frame_loaded := nofun
    send_index := nofun
    drain_index := nofun
    timer_within := nofun
    owner_port_free := nofun }

/-- Taking a request keeps the invariant. -/
theorem TakeStep.inv {p : Nat} {s t : State} (hstep : TakeStep p s t) (h : Inv s) : Inv t := by
  cases hstep with
  | waits => exact h
  | answers k o d hk hreq => exact inv_answerRequest h hk hreq o d
  | acquires k op hk hreq hfree hop hlen hopen => exact inv_acquire h hk hreq hfree hop hlen
  | grants k hk hreq hfree => exact inv_grantHold h hk hreq hfree
  | releases k hk hreq hold =>
    have hexcl : s.tphase = .excl := by simp_all [holds]
    have hanswer := inv_answerRequest h hk hreq .granted diagNone
    rw [← decodeEnded_self hanswer (by simp [hexcl])]
    exact inv_released hanswer _ _ _ _

end Take

section Block

/-- A tick keeps the invariant: the timer only falls (R172). -/
theorem inv_tick {s : State} (h : Inv s) : Inv (tick s) := by
  obtain ⟨-, -, heq⟩ | ⟨-, heq⟩ := tick_cases s <;> rw [heq]
  · have hfit : s.decTimer < 2 ^ s.params.tw := by simpa [Params.timeoutFits] using h.timer_fits
    exact { h with
      timer_fits := by simpa [Params.timeoutFits] using (Nat.sub_le _ _).trans_lt hfit
      timer_within := fun hph => (Nat.sub_le _ _).trans (h.timer_within hph) }
  · exact h

/-- Every element at its reset value satisfies the invariant, in every configuration of R7 (R45). -/
theorem inv_resetWith {c : Params} {n : Nat} (hc : configOk (State.resetWith c n) = true) :
    Inv (State.resetWith c n) where
  config := hc
  parser := parserInv_empty c
  lock_phase := ⟨fun _ => rfl, fun _ => rfl⟩
  owner_is_port := nofun
  phase_legal := rfl
  decode_runs := ⟨nofun, nofun⟩
  parser_at_rest _ := rfl
  hold_op := nofun
  latched_op := nofun
  latched_body := nofun
  frame_loaded := nofun
  send_index := nofun
  drain_index := nofun
  timer_fits := decide_eq_true (Nat.two_pow_pos _)
  latched_fits := decide_eq_true (Nat.two_pow_pos _)
  posted_fits k hk := by
    rw [List.eq_of_mem_replicate hk]
    exact decide_eq_true (Nat.two_pow_pos _)
  one_record k hk := by rw [List.eq_of_mem_replicate hk]; nofun
  timer_within := nofun
  owner_port_free := nofun

/-- A block reset restores the invariant (R270). -/
theorem inv_blockReset {s : State} (h : Inv s) : Inv (blockReset s) :=
  { inv_resetWith ((configOk_congr (s := s) (t := State.resetWith s.params s.ports.length) rfl
      (by simp [State.resetWith])).trans h.config) with }

/-- Every move keeps the invariant. -/
theorem inv_applyMove {m : Move} {s t : State} (hs : Inv s) (h : applyMove m s = .next t) : Inv t := by
  cases m with
  | own => exact (ownStep_of_sequencerStep h).inv hs
  | take p => exact (takeStep_of_takeRequest h).inv hs
  | tick => obtain rfl := Host.Outcome.next.inj h; exact inv_tick hs
  | post p op body n => obtain rfl := Host.Outcome.next.inj h; exact inv_hostPost hs p op body n
  | collect p => obtain rfl := Host.Outcome.next.inj h; exact inv_hostCollect hs p
  | rst => obtain rfl := Host.Outcome.next.inj h; exact inv_blockReset hs
  | rxArrive | rxLose | xpOpen | xpErr | txDrained | reconfigure =>
    obtain rfl := Host.Outcome.next.inj h
    exact { hs with }

/-- Settles O51, move by move. -/
theorem everyStepKeepsTheInvariant : Obligations.EveryStepKeepsTheInvariant := by
  intro s t hs h
  obtain ⟨-, ⟨-, rfl⟩ | ⟨m, rest, -, hm⟩⟩ := step_eq_next_iff.1 h
  · exact hs
  · exact inv_applyMove (s := { s with schedule := rest }) { hs with } hm

/-- Settles O50: the machine after reset is every element at its reset value, in a configuration of R7. -/
theorem invariantHoldsAfterReset : Obligations.InvariantHoldsAfterReset :=
  inv_resetWith (by decide)

/-- Settles O49, by the values `State.resetWith` gives. -/
theorem resetStateHoldsTheResetValues : Obligations.ResetStateHoldsTheResetValues := by
  refine ⟨rfl, rfl, rfl, rfl, rfl, rfl, rfl, rfl, fun q hq => ?_⟩
  rw [List.eq_of_mem_replicate hq]
  exact ⟨rfl, rfl⟩

end Block

end Sys2Proof.Proofs
end

section
/-! PROOFS. The decoder and the encoder are inverse to each other (R96, R97, R103): first the received bytes,
row by row, then all words. -/

namespace Sys2Proof.Proofs

open Sys2Proof

section ReceivedBytes

/-- The rows of a state cover its 256 bytes, and the row a byte selects gives back the byte's bits
(R103 (a)). -/
theorem rxWord_decodeRx (st : PState) (b : Byte) : (decodeRx st b).rxWord = some (st, b) := by
  cases st <;> revert b <;> decide +kernel

/-- The rows of a state do not overlap: whatever the free bits of a row, no row before it in the decoder's
order takes its byte (R103 (a)). -/
theorem decodeRx_of_rxWord {i : Instr} {st : PState} {b : Byte} (h : i.rxWord = some (st, b)) :
    decodeRx st b = i := by
  cases i with
  | idleSkip_00_00 | idleSoh | hdrOther_00_00 | hdrOther_05_05 | hdrOther_FF_FF | hdrSoh | hdrStx
  | hdrEtx | hdrEot | hdrPrint_FE_FE | bodyOther_00_00 | bodyOther_05_05 | bodyOther_FF_FF | bodySoh
  | bodyStx | bodyEtx | bodyEot | bodyPrint_FE_FE | crcNonhex_00_00 | crcNonhex_05_05 | crcNonhex_40_40
  | crcNonhex_47_47 | crcNonhex_60_60 | crcNonhex_67_67 | crcSoh | crcStx | crcEtx | crcEot
  | crcHex_41_41 | crcHex_46_46 | crcHex_61_61 | crcHex_66_66 =>
    cases h; rfl
  | idleSkip_02_03 x | idleSkip_04_07 x | idleSkip_08_0F x | idleSkip_10_1F x | idleSkip_20_3F x
  | idleSkip_40_7F x | idleSkip_80_FF x | hdrOther_06_07 x | hdrOther_08_0F x | hdrOther_10_1F x
  | hdrPrint_20_3F x | hdrPrint_40_7F x | hdrPrint_80_BF x | hdrPrint_C0_DF x | hdrPrint_E0_EF x
  | hdrPrint_F0_F7 x | hdrPrint_F8_FB x | hdrPrint_FC_FD x | bodyOther_06_07 x | bodyOther_08_0F x
  | bodyOther_10_1F x | bodyPrint_20_3F x | bodyPrint_40_7F x | bodyPrint_80_BF x | bodyPrint_C0_DF x
  | bodyPrint_E0_EF x | bodyPrint_F0_F7 x | bodyPrint_F8_FB x | bodyPrint_FC_FD x | crcNonhex_06_07 x
  | crcNonhex_08_0F x | crcNonhex_10_1F x | crcNonhex_20_2F x | crcNonhex_3A_3B x | crcNonhex_3C_3F x
  | crcNonhex_48_4F x | crcNonhex_50_5F x | crcNonhex_68_6F x | crcNonhex_70_7F x | crcNonhex_80_FF x
  | crcHex_30_37 x | crcHex_38_39 x | crcHex_42_43 x | crcHex_44_45 x | crcHex_62_63 x | crcHex_64_65 x =>
    cases h; revert x; decide +kernel
  | cmd | cmdNr | excl | release | headerCmd | headerResp | headerErr | encode | crc32 | decode => cases h

/-- An instruction is decoded from a state and a byte exactly where they are its row's word. -/
theorem decodeRx_eq_iff {i : Instr} {st : PState} {b : Byte} :
    decodeRx st b = i ↔ i.rxWord = some (st, b) :=
  ⟨fun h => h ▸ rxWord_decodeRx st b, decodeRx_of_rxWord⟩

end ReceivedBytes

section Words

/-- The word of a received-byte row is its state and byte. -/
theorem encode_of_rxWord {i : Instr} {st : PState} {b : Byte} (h : i.rxWord = some (st, b)) :
    encode i = some (.rx st b) := by
  cases i with
  | cmd | cmdNr | excl | release | headerCmd | headerResp | headerErr | encode | crc32 | decode => cases h
  | _ => cases h; rfl

/-- Decoding an encoded instruction gives it back, with every operand. -/
theorem decode_of_encode {i : Instr} {f : Fetched} (h : encode i = some f) : decode f = .instr i := by
  cases hw : i.rxWord with
  | some w =>
    obtain rfl := Option.some.inj ((encode_of_rxWord hw).symm.trans h)
    exact congrArg Decoded.instr (decodeRx_eq_iff.2 hw)
  | none =>
    cases i with
    | cmd | cmdNr | excl | release | headerCmd | headerResp | headerErr => cases h; rfl
    | encode | crc32 | decode => cases h
    | _ => cases hw

/-- Exactly the internal operations have no instruction word (R103 (d)). -/
theorem encode_eq_none_iff {i : Instr} :
    encode i = none ↔ (∃ h B, i = .encode h B) ∨ (∃ B, i = .crc32 B) ∨ (∃ n, i = .decode n) := by
  constructor
  · intro hnone
    cases i with
    | encode h B => exact .inl ⟨h, B, rfl⟩
    | crc32 B => exact .inr (.inl ⟨B, rfl⟩)
    | decode n => exact .inr (.inr ⟨n, rfl⟩)
    | _ => cases hnone
  · rintro (⟨h, B, rfl⟩ | ⟨B, rfl⟩ | ⟨n, rfl⟩) <;> rfl

end Words

/-- Settles O53: the two round trips and the instructions without a word. -/
theorem decodeAndEncodeAgree : Obligations.DecodeAndEncodeAgree :=
  ⟨fun _ _ => decode_of_encode, fun st b => encode_of_rxWord (rxWord_decodeRx st b),
    fun _ => encode_eq_none_iff⟩

/-- Settles O54: each instruction encodes to its sample word, so the word decodes to it; the last sample, a
header in lower case, is neither of the two the block tests for. -/
theorem sampleWordsDecode : Obligations.SampleWordsDecode :=
  ⟨decode_of_encode rfl, decode_of_encode rfl, decode_of_encode rfl, decode_of_encode rfl,
    decode_of_encode rfl, decode_of_encode rfl, decode_of_encode rfl, decode_of_encode rfl,
    decode_of_encode rfl, decode_of_encode rfl, decode_of_encode rfl, rfl⟩

end Sys2Proof.Proofs
end

section
/-! PROOFS. The CRC register (R111 to R115): the loop of R112 as an iterate, the table form from its linearity
over exclusive-or, and the error-detection law from its injectivity. -/

namespace Sys2Proof.Proofs

open Sys2Proof Sys2Proof.Machine Sys2Proof.Claims

section Loop

theorem crcShifts_succ (n : Nat) (r : Word32) : crcShifts (n + 1) r = crcShifts n (crcShift r) := rfl

theorem crcShifts_eq_iterate (n : Nat) : crcShifts n = crcShift^[n] := by
  induction n with
  | zero => rfl
  | succ n ih =>
    funext r
    rw [crcShifts_succ, ih, Function.iterate_succ_apply]

/-- What a turn takes in: the polynomial when the bit shifted out is set. -/
def crcTap (p : Bool) : Word32 := if p then crcPoly else 0

theorem crcTap_xor : ∀ p q : Bool, crcTap (p ^^ q) = crcTap p ^^^ crcTap q := by decide

/-- The top bit of the polynomial is set. -/
theorem crcTap_getLsbD_top : ∀ p : Bool, (crcTap p).getLsbD 31 = p := by decide

theorem crcShift_eq_xor_crcTap (r : Word32) : crcShift r = (r >>> 1) ^^^ crcTap (r.getLsbD 0) := by
  unfold crcShift
  cases r.getLsbD 0 with
  | false => exact (BitVec.xor_zero (x := r >>> 1)).symm
  | true => rfl

/-- Settles O18: the meaning of the instruction is `crc32`, and the loop is an iterate. -/
theorem crc32InstructionGivesTheChecksum : Obligations.Crc32InstructionGivesTheChecksum :=
  ⟨fun _ _ => rfl, fun r b => congrFun (crcShifts_eq_iterate 8) (r ^^^ b.setWidth 32), by decide⟩

end Loop

section Table

/-- A turn is linear: both the shift and what it takes in are. -/
theorem crcShift_xor (a b : Word32) : crcShift (a ^^^ b) = crcShift a ^^^ crcShift b := by
  rw [crcShift_eq_xor_crcTap, crcShift_eq_xor_crcTap, crcShift_eq_xor_crcTap, BitVec.ushiftRight_xor_distrib,
    BitVec.getLsbD_xor, crcTap_xor]
  ac_rfl

theorem crcShifts_xor (n : Nat) (a b : Word32) : crcShifts n (a ^^^ b) = crcShifts n a ^^^ crcShifts n b := by
  induction n generalizing a b with
  | zero => rfl
  | succ n ih => rw [crcShifts_succ, crcShift_xor, ih, crcShifts_succ, crcShifts_succ]

/-- A register whose low `n` bits are clear is only shifted by `n` turns. -/
theorem crcShifts_of_clear {n : Nat} {r : Word32} (h : ∀ i < n, r.getLsbD i = false) :
    crcShifts n r = r >>> n := by
  induction n generalizing r with
  | zero => simp [crcShifts]
  | succ n ih =>
    have hrest : ∀ i < n, (r >>> 1).getLsbD i = false := fun i hi => by
      rw [BitVec.getLsbD_ushiftRight]
      exact h (1 + i) (by omega)
    have hturn : crcShift r = r >>> 1 := by
      rw [crcShift_eq_xor_crcTap, h 0 n.succ_pos]
      exact BitVec.xor_zero
    rw [crcShifts_succ, hturn, ih hrest, ← BitVec.shiftRight_add, Nat.add_comm]

/-- Eight shifts leave nothing of a zero-extended byte. -/
theorem xor_byte_ushiftRight (r : Word32) (b : Byte) : (r ^^^ b.setWidth 32) >>> 8 = r >>> 8 := by
  ext i hi
  simp

/-- Eight turns on any register, from splitting off its low byte (R114). -/
theorem crcShifts_eight (r : Word32) : crcShifts 8 r = (r >>> 8) ^^^ crcTable (r.setWidth 8) := by
  let low : Word32 := (r.setWidth 8 : Byte).setWidth 32
  have hclear : ∀ i < 8, (r ^^^ low).getLsbD i = false := fun i hi => by
    simp [low, hi, hi.trans (show 8 < 32 by decide)]
  calc crcShifts 8 r = crcShifts 8 ((r ^^^ low) ^^^ low) := by
        rw [BitVec.xor_assoc, BitVec.xor_self, BitVec.xor_zero]
    _ = (r ^^^ low) >>> 8 ^^^ crcShifts 8 low := by rw [crcShifts_xor, crcShifts_of_clear hclear]
    _ = (r >>> 8) ^^^ crcTable (r.setWidth 8) := by rw [xor_byte_ushiftRight]; rfl

theorem crcUpdate_eq_crcUpdateByTable (r : Word32) (b : Byte) : crcUpdate r b = crcUpdateByTable r b := by
  rw [crcUpdate, crcShifts_eight, xor_byte_ushiftRight, crcUpdateByTable]

/-- Settles O19: the table form, and the sample entries by running the loop. -/
theorem crcUpdateHasATableForm : Obligations.CrcUpdateHasATableForm :=
  ⟨crcUpdate_eq_crcUpdateByTable, by decide⟩

end Table

section ErrorDetection

/-- The top bit after a turn is the bit the turn shifted out. -/
theorem crcShift_getLsbD_top (r : Word32) : (crcShift r).getLsbD 31 = r.getLsbD 0 := by
  rw [crcShift_eq_xor_crcTap, BitVec.getLsbD_xor, crcTap_getLsbD_top]
  simp

/-- A turn loses nothing: equal results took in the same, and so shifted equal registers. -/
theorem crcShift_injective : Function.Injective crcShift := by
  intro a b h
  have hlow : a.getLsbD 0 = b.getLsbD 0 := by rw [← crcShift_getLsbD_top, h, crcShift_getLsbD_top]
  have hrest : a >>> 1 = b >>> 1 := by
    rwa [crcShift_eq_xor_crcTap, crcShift_eq_xor_crcTap, hlow, BitVec.xor_left_inj] at h
  refine BitVec.eq_of_getLsbD_eq fun i _ => ?_
  cases i with
  | zero => exact hlow
  | succ i => simpa [Nat.add_comm] using congrArg (·.getLsbD i) hrest

theorem crcShifts_injective (n : Nat) : Function.Injective (crcShifts n) :=
  crcShifts_eq_iterate n ▸ crcShift_injective.iterate n

theorem crcUpdate_left_injective (b : Byte) : Function.Injective (crcUpdate · b) := fun _ _ h =>
  (BitVec.xor_left_inj _).mp (crcShifts_injective 8 h)

theorem crcUpdate_right_injective (r : Word32) : Function.Injective (crcUpdate r) := fun a b h => by
  have hwide : a.setWidth 32 = b.setWidth 32 := (BitVec.xor_right_inj _).mp (crcShifts_injective 8 h)
  simpa using congrArg (BitVec.setWidth 8) hwide

theorem foldl_crcUpdate_injective (v : Bytes) : Function.Injective (v.foldl crcUpdate) := by
  induction v with
  | nil => exact fun _ _ h => h
  | cons b v ih => exact ih.comp (crcUpdate_left_injective b)

theorem crcFinal_injective : Function.Injective crcFinal := fun _ _ => (BitVec.xor_left_inj _).mp

/-- Settles O20: the damaged byte makes the registers differ, and neither the bytes after it nor the final
exclusive-or can make them equal again. -/
theorem oneDamagedByteChangesTheCrc : Obligations.OneDamagedByteChangesTheCrc := by
  intro u v a b hne heq
  simp only [crc32, List.foldl_append, List.foldl_cons] at heq
  exact hne (crcUpdate_right_injective _ (foldl_crcUpdate_injective v (crcFinal_injective heq)))

end ErrorDetection

end Sys2Proof.Proofs
end

section
/-! PROOFS. The CRC field (R116 to R119): a string of digits as a numeral in Mathlib's sense, the field the
encoder writes, the comparison by value, and the shift register that makes it digit by digit. -/

namespace Sys2Proof.Proofs

open Sys2Proof Sys2Proof.Machine Sys2Proof.Claims

section Numeral

theorem hexNumeral_concat (s : Bytes) (b : Byte) : hexNumeral (s ++ [b]) = 16 * hexNumeral s + hexDigitVal b := by
  simp [hexNumeral]

/-- The numeral of R117 is the one whose digits, least significant first, are those of the string reversed. -/
theorem hexNumeral_eq_ofDigits (s : Bytes) : hexNumeral s = Nat.ofDigits 16 (s.reverse.map hexDigitVal) := by
  induction s using List.reverseRecOn with
  | nil => rfl
  | append_singleton s b ih =>
    rw [hexNumeral_concat, ih, List.reverse_concat, List.map_cons, Nat.ofDigits_cons, Nat.add_comm]

theorem hexNumeral_append (s t : Bytes) : hexNumeral (s ++ t) = 16 ^ t.length * hexNumeral s + hexNumeral t := by
  simp only [hexNumeral_eq_ofDigits, List.reverse_append, List.map_append, Nat.ofDigits_append, List.length_map,
    List.length_reverse]
  exact Nat.add_comm ..

theorem hexNumeral_replicate_zero (k : Nat) : hexNumeral (List.replicate k 0x30) = 0 := by
  rw [hexNumeral_eq_ofDigits, List.reverse_replicate, List.map_replicate]
  exact Nat.ofDigits_replicate_zero

theorem hexVal_eq_some_iff {s : Bytes} {v : Nat} : hexVal s = some v ↔ s ≠ [] ∧ hexNumeral s = v := by
  simp [hexVal]

end Numeral

section Digits

/-- Of the characters of R88 only `0` has the value 0. -/
theorem eq_zero_char_of_hexDigitVal : ∀ b : Byte, isHex b = true → hexDigitVal b = 0 → b = 0x30 := by
  decide +kernel

theorem hexDigitVal_lt : ∀ b : Byte, isHex b = true → hexDigitVal b < 16 := by
  decide +kernel

theorem hexDigitVal_lowerHexDigit : ∀ d : BitVec 4, hexDigitVal (lowerHexDigit d) = d.toNat := by
  decide

theorem lowerHexDigit_range : ∀ d : BitVec 4,
    (0x30 ≤ (lowerHexDigit d).toNat ∧ (lowerHexDigit d).toNat ≤ 0x39) ∨
    (0x61 ≤ (lowerHexDigit d).toNat ∧ (lowerHexDigit d).toNat ≤ 0x66) := by
  decide

/-- A numeral is 0 only when all its digits are. -/
theorem eq_zero_char_of_hexNumeral {s : Bytes} (hs : s.all isHex = true) (h : hexNumeral s = 0) :
    ∀ b ∈ s, b = 0x30 := by
  intro b hb
  rw [hexNumeral_eq_ofDigits] at h
  refine eq_zero_char_of_hexDigitVal b (List.all_eq_true.mp hs b hb) ?_
  exact Nat.digits_zero_of_eq_zero (by decide) h _ (List.mem_map_of_mem (List.mem_reverse.mpr hb))

end Digits

section Field

/-- The eight nibbles of a word are its digits in base 16. -/
theorem hexNumeral_hex8 (c : Word32) : hexNumeral (hex8 c) = c.toNat := by
  have hlt := c.isLt
  simp only [hexNumeral, hex8, List.foldl_cons, List.foldl_nil, hexDigitVal_lowerHexDigit,
    BitVec.extractLsb'_toNat, Nat.shiftRight_eq_div_pow]
  omega

/-- Settles O21: what the encoder writes is eight digits, and they read back. -/
theorem hexFieldReadsBack : Obligations.HexFieldReadsBack := by
  refine fun c => ⟨rfl, ?_, ?_⟩
  · exact hexVal_eq_some_iff.mpr ⟨nofun, hexNumeral_hex8 c⟩
  · simp only [hex8, List.forall_mem_cons, lowerHexDigit_range, true_and]
    exact List.forall_mem_nil _

end Field

section Match

theorem crcMatch_iff {body s : Bytes} : crcMatch body s = true ↔ hexVal s = some (crc32 body).toNat :=
  decide_eq_true_iff

theorem hexVal_leading_zeros {s : Bytes} (k : Nat) (hs : s ≠ []) :
    hexVal (List.replicate k 0x30 ++ s) = hexVal s := by
  have hvalue : hexNumeral (List.replicate k 0x30 ++ s) = hexNumeral s := by
    rw [hexNumeral_append, hexNumeral_replicate_zero, Nat.mul_zero, Nat.zero_add]
  rw [hexVal, hexVal, if_neg hs, if_neg (List.append_ne_nil_of_right_ne_nil _ hs), hvalue]

/-- The digits before the last eight weigh `2 ^ 32` each or more, so in a field that matches they are zeros. -/
theorem leading_zeros_of_crcMatch {body s : Bytes} (hs : s.all isHex = true) (hlen : 8 < s.length)
    (h : crcMatch body s = true) : ∀ b ∈ s.take (s.length - 8), b = 0x30 := by
  obtain ⟨-, hvalue⟩ := hexVal_eq_some_iff.mp (crcMatch_iff.mp h)
  have hsplit := hexNumeral_append (s.take (s.length - 8)) (s.drop (s.length - 8))
  have hlast : (s.drop (s.length - 8)).length = 8 := by rw [List.length_drop]; omega
  rw [List.take_append_drop, hlast, hvalue] at hsplit
  have hlt : (crc32 body).toNat < 2 ^ 32 := (crc32 body).isLt
  refine eq_zero_char_of_hexNumeral ?_ (by omega)
  exact List.all_eq_true.mpr fun b hb => List.all_eq_true.mp hs b (List.mem_of_mem_take hb)

/-- Settles O22: each consequence from the value of the field. -/
theorem crcFieldIsComparedByValue : Obligations.CrcFieldIsComparedByValue := by
  intro B
  refine ⟨fun _ => crcMatch_iff, rfl, ?zeros, ?long, ?large⟩
  case zeros => exact fun f k hf => by rw [crcMatch, crcMatch, hexVal_leading_zeros k hf]
  case long => exact fun f hf hlen h => leading_zeros_of_crcMatch hf hlen h
  case large =>
    intro f v hv hlarge
    refine Bool.eq_false_iff.mpr fun h => ?_
    have hval : v = (crc32 B).toNat := Option.some_inj.mp (hv.symm.trans (crcMatch_iff.mp h))
    exact absurd (crc32 B).isLt (by omega)

end Match

section ShiftRegister

/-- The shift register after some digits. -/
def crcShiftRegOf (s : Bytes) : CrcShiftReg := s.foldl crcShiftRegPush crcShiftRegClear

theorem crcShiftRegOf_concat (s : Bytes) (b : Byte) :
    crcShiftRegOf (s ++ [b]) = crcShiftRegPush (crcShiftRegOf s) b := by
  simp [crcShiftRegOf]

theorem crcShiftRegOf_ne (s : Bytes) : (crcShiftRegOf s).ne = decide (s ≠ []) := by
  induction s using List.reverseRecOn with
  | nil => rfl
  | append_singleton s b _ => simp [crcShiftRegOf_concat, crcShiftRegPush]

/-- Taking a digit in puts it behind the register's own and drops the register's first. -/
theorem crcShiftRegPush_acc_toNat (v : CrcShiftReg) {b : Byte} (hb : isHex b = true) :
    (crcShiftRegPush v b).acc.toNat = (16 * v.acc.toNat + hexDigitVal b) % 2 ^ 32 := by
  have hlt : hexDigitVal b < 2 ^ 4 := hexDigitVal_lt b hb
  have hshift : (v.acc.toNat <<< 4) % 2 ^ 32 = (v.acc.toNat % 2 ^ 28) <<< 4 := by
    simp only [Nat.shiftLeft_eq]
    omega
  have hdigit : hexDigitVal b % 2 ^ 32 = hexDigitVal b := Nat.mod_eq_of_lt (by omega)
  rw [crcShiftRegPush, BitVec.toNat_or, BitVec.toNat_shiftLeft, BitVec.toNat_ofNat, hshift, hdigit,
    ← Nat.shiftLeft_add_eq_or_of_lt hlt, Nat.shiftLeft_eq]
  omega

theorem crcShiftRegPush_ovf (v : CrcShiftReg) (b : Byte) :
    (crcShiftRegPush v b).ovf = true ↔ v.ovf = true ∨ 2 ^ 28 ≤ v.acc.toNat := by
  have htop : v.acc.extractLsb' 28 4 = 0#4 ↔ v.acc.toNat < 2 ^ 28 := by
    have hlt := v.acc.isLt
    rw [← BitVec.toNat_inj, BitVec.extractLsb'_toNat, Nat.shiftRight_eq_div_pow, BitVec.toNat_ofNat]
    omega
  simp [crcShiftRegPush, htop]

/-- `acc` holds the numeral's value modulo `2 ^ 32` (R119). -/
theorem crcShiftRegOf_acc_toNat {s : Bytes} (hs : s.all isHex = true) :
    (crcShiftRegOf s).acc.toNat = hexNumeral s % 2 ^ 32 := by
  induction s using List.reverseRecOn with
  | nil => rfl
  | append_singleton s b ih =>
    obtain ⟨hs, hb⟩ : s.all isHex = true ∧ isHex b = true := by simpa using hs
    rw [crcShiftRegOf_concat, crcShiftRegPush_acc_toNat _ hb, ih hs, hexNumeral_concat]
    omega

/-- `ovf` records that the value is `2 ^ 32` or more (R119). -/
theorem crcShiftRegOf_ovf {s : Bytes} (hs : s.all isHex = true) :
    (crcShiftRegOf s).ovf = true ↔ 2 ^ 32 ≤ hexNumeral s := by
  induction s using List.reverseRecOn with
  | nil => decide
  | append_singleton s b ih =>
    obtain ⟨hs, hb⟩ : s.all isHex = true ∧ isHex b = true := by simpa using hs
    have hlt := hexDigitVal_lt b hb
    rw [crcShiftRegOf_concat, crcShiftRegPush_ovf, ih hs, crcShiftRegOf_acc_toNat hs, hexNumeral_concat]
    omega

theorem crcMatchByShiftReg_iff {body s : Bytes} : crcMatchByShiftReg body s = true ↔
    (crcShiftRegOf s).ne = true ∧ ¬ (crcShiftRegOf s).ovf = true ∧ (crcShiftRegOf s).acc = crc32 body := by
  simp [crcMatchByShiftReg, crcShiftRegOf, and_assoc]

/-- Settles O23, from what the three registers hold: a value below `2 ^ 32` is its own remainder. -/
theorem shiftRegisterVerifierIsEquivalent : Obligations.ShiftRegisterVerifierIsEquivalent := by
  intro B f hf
  have hlt := (crc32 B).isLt
  rw [Bool.eq_iff_iff, crcMatchByShiftReg_iff, crcMatch_iff, hexVal_eq_some_iff, crcShiftRegOf_ne,
    decide_eq_true_iff, crcShiftRegOf_ovf hf, ← BitVec.toNat_inj, crcShiftRegOf_acc_toNat hf]
  exact and_congr_right fun _ => by omega

end ShiftRegister

end Sys2Proof.Proofs
end

section
/-! PROOFS. The wire frame (R125 to R131): its layout and length, the streaming encoder, and the round trip
through the decoder. A frame is fed field by field; until its EOT the decoder gives nothing out (`SilentFeed`)
and only the parser moves (`parsing`). -/

namespace Sys2Proof.Proofs

open Sys2Proof Sys2Proof.Machine Sys2Proof.Claims Sys2Proof.Laws

section Frame

theorem encodeFrame_length (h B : Bytes) : (encodeFrame h B).length = h.length + B.length + 12 := by
  simp only [encodeFrame, hex8, List.length_append, List.length_cons, List.length_nil]
  omega

/-- Settles O25: the meaning of the instruction is `encodeFrame`, and its fields add up. -/
theorem encodeInstructionGivesTheFrame : Obligations.EncodeInstructionGivesTheFrame :=
  fun _ h B => ⟨rfl, encodeFrame_length h B⟩

/-- Streaming a body from any running CRC sends the body, and then the CRC of all that was taken in (R130). -/
theorem streamBody_eq (r : Word32) (B : Bytes) :
    streamBody r B = B ++ ([etx] ++ hex8 (crcFinal (B.foldl crcUpdate r)) ++ [eot]) := by
  induction B generalizing r with
  | nil => rfl
  | cons b B ih => rw [streamBody, ih, List.foldl_cons]; rfl

/-- Settles O24: the running CRC starts as `crc32` does. -/
theorem streamingEncoderSendsTheSameFrame : Obligations.StreamingEncoderSendsTheSameFrame := fun h B => by
  simp only [encodeStream, streamBody_eq, encodeFrame, crc32, List.append_assoc]

end Frame

section Feed

theorem feed_cons_of_next {s t : State} {b : Byte} (h : exec (decodeRx s.parser.pstate b) s = .next t)
    (rest : Bytes) : feed (b :: rest) s = (feed rest t).map fun r => (t.decOut :: r.1, r.2) := by
  simp only [feed, h]

theorem feed_singleton {s t : State} {b : Byte} (h : exec (decodeRx s.parser.pstate b) s = .next t) :
    feed [b] s = some ([t.decOut], t) :=
  feed_cons_of_next h []

/-- Feeding two strings one after the other is feeding the second to the state after the first. -/
theorem feed_append (u v : Bytes) (s : State) :
    feed (u ++ v) s = (feed u s).bind fun r => (feed v r.2).map fun r' => (r.1 ++ r'.1, r'.2) := by
  induction u generalizing s with
  | nil => cases hv : feed v s <;> simp [feed, hv]
  | cons b u ih =>
    cases hb : exec (decodeRx s.parser.pstate b) s with
    | next t =>
      rw [List.cons_append, feed_cons_of_next hb, feed_cons_of_next hb, ih, Option.map_bind, Option.bind_map]
      exact Option.bind_congr fun r _ => by simp [Function.comp_def]
    | _ => simp [feed, hb]

theorem feed_append_of_some {u v : Bytes} {s t t' : State} {o o' : List DecOut}
    (hu : feed u s = some (o, t)) (hv : feed v t = some (o', t')) : feed (u ++ v) s = some (o ++ o', t') := by
  simp [feed_append, hu, hv]

/-- Feeding `u` leads from `s` to `t` with no output at any byte. -/
def SilentFeed (u : Bytes) (s t : State) : Prop := feed u s = some (List.replicate u.length .none, t)

theorem SilentFeed.nil (s : State) : SilentFeed [] s s := rfl

theorem SilentFeed.append {u v : Bytes} {s t t' : State} (hu : SilentFeed u s t) (hv : SilentFeed v t t') :
    SilentFeed (u ++ v) s t' := by
  rw [SilentFeed, List.length_append, List.replicate_add]
  exact feed_append_of_some hu hv

/-- The state `s` with its parser at `q` after a step that gave nothing out. -/
def parsing (q : Parser) (s : State) : State := setOut .none (setParser q s)

theorem silentFeed_singleton {q : Parser} {s t : State} {b : Byte}
    (h : exec (decodeRx s.parser.pstate b) s = .next (parsing q t)) : SilentFeed [b] s (parsing q t) :=
  feed_singleton h

/-- A field received byte by byte: where each byte in its turn is stored behind those before it, feeding
the field stores the whole of it. -/
theorem silentFeed_field {field : Bytes → Parser} {s : State} {bs : Bytes}
    (hstep : ∀ pre b, pre ++ [b] <+: bs →
      exec (decodeRx (field pre).pstate b) (parsing (field pre) s) = .next (parsing (field (pre ++ [b])) s)) :
    SilentFeed bs (parsing (field []) s) (parsing (field bs) s) := by
  induction bs using List.reverseRecOn with
  | nil => exact SilentFeed.nil _
  | append_singleton bs b ih =>
    have hbefore := ih fun pre c hpre => hstep pre c (hpre.trans (List.prefix_append bs [b]))
    exact hbefore.append (silentFeed_singleton (hstep bs b List.prefix_rfl))

end Feed

section RoundTrip

/-- While a field that fits is being received, its buffer has room for the next byte (R160). -/
theorem bufferFull_of_prefix {cap : Option Nat} {bs pre : Bytes} {b : Byte} (hfits : fits cap bs)
    (hpre : pre ++ [b] <+: bs) : bufferFull cap pre = false := by
  cases cap with
  | none => rfl
  | some n =>
    have hle : (pre ++ [b]).length ≤ n := hpre.length_le.trans (hfits n rfl)
    rw [List.length_append, List.length_singleton] at hle
    exact decide_eq_false (by omega)

theorem of_all_of_prefix {p : Byte → Bool} {bs pre : Bytes} {b : Byte} (hall : bs.all p = true)
    (hpre : pre ++ [b] <+: bs) : p b = true :=
  List.all_eq_true.mp hall b (hpre.subset (by simp))

theorem stepOf_inHeader_of_isPrint : ∀ b : Byte, isPrint b = true → stepOf .inHeader b = .hdrPrint := by
  decide +kernel

theorem stepOf_inBody_of_isPrint : ∀ b : Byte, isPrint b = true → stepOf .inBody b = .bodyPrint := by
  decide +kernel

theorem stepOf_inCrc_of_isHex : ∀ b : Byte, isHex b = true → stepOf .inCrc b = .crcHex := by
  decide +kernel

theorem isHex_lowerHexDigit : ∀ d : BitVec 4, isHex (lowerHexDigit d) = true := by
  decide

theorem hex8_all_isHex (c : Word32) : (hex8 c).all isHex = true := by
  simp [hex8, isHex_lowerHexDigit]

/-- A byte whose step, in the parser's state, gives nothing out. -/
theorem silentFeed_of_run {st : PState} {b : Byte} {q : Parser} {s t : State} (hst : s.parser.pstate = st)
    (hrun : (stepOf st b).run b s = inPState st s (parsing q t)) : SilentFeed [b] s (parsing q t) := by
  refine silentFeed_singleton ?_
  rw [hst, exec_decodeRx, hrun, inPState_of_pstate hst]

/-- An SOH opens the header in whatever state the parser is, with at most one event (R140, R141, R147,
R153). -/
theorem silentFeed_soh (s : State) : ∃ (q : Parser) (es : List Event), q.pstate = .inHeader ∧ q.hdrBuf = [] ∧
    es.length ≤ 1 ∧ SilentFeed [soh] s (parsing q { s with evlog := s.evlog ++ es }) := by
  cases hst : s.parser.pstate with
  | idle =>
    refine ⟨{ s.parser with hdrBuf := [], pstate := .inHeader }, [], rfl, rfl, Nat.zero_le 1,
      silentFeed_of_run hst ?_⟩
    rw [List.append_nil]; rfl
  | inHeader =>
    exact ⟨{ s.parser with hdrBuf := [] }, [.restart .inHeader soh], hst, rfl, Nat.le_refl 1,
      silentFeed_of_run hst rfl⟩
  | inBody =>
    exact ⟨⟨.inHeader, [], [], []⟩, [.restart .inBody soh], rfl, rfl, Nat.le_refl 1, silentFeed_of_run hst rfl⟩
  | inCrc =>
    exact ⟨⟨.inHeader, [], [], []⟩, [.restart .inCrc soh], rfl, rfl, Nat.le_refl 1, silentFeed_of_run hst rfl⟩

/-- A byte of a field that fits is stored and does not overflow (R160). -/
theorem store_of_prefix {cap : Option Nat} {bs pre : Bytes} {b : Byte} {s : State} (which : Buffer)
    (next : State) (hfits : fits cap bs) (hpre : pre ++ [b] <+: bs) :
    (if bufferFull cap pre then overflow which s else next) = next :=
  if_neg (Bool.eq_false_iff.mp (bufferFull_of_prefix hfits hpre))

/-- A clean header that fits is stored whole (R144). -/
theorem silentFeed_header {s : State} {h : Bytes} (body crc : Bytes) (hclean : clean h = true)
    (hfits : fits s.params.hdrCap h) :
    SilentFeed h (parsing ⟨.inHeader, [], body, crc⟩ s) (parsing ⟨.inHeader, h, body, crc⟩ s) := by
  refine silentFeed_field (field := fun pre => ⟨.inHeader, pre, body, crc⟩) fun pre b hpre => ?_
  rw [exec_decodeRx, stepOf_inHeader_of_isPrint b (of_all_of_prefix hclean hpre)]
  exact congrArg Host.Outcome.next (store_of_prefix .hdr _ hfits hpre)

/-- A clean body that fits is stored whole (R151). -/
theorem silentFeed_body {s : State} {B : Bytes} (h crc : Bytes) (hclean : clean B = true)
    (hfits : fits s.params.bodyCap B) :
    SilentFeed B (parsing ⟨.inBody, h, [], crc⟩ s) (parsing ⟨.inBody, h, B, crc⟩ s) := by
  refine silentFeed_field (field := fun pre => ⟨.inBody, h, pre, crc⟩) fun pre b hpre => ?_
  rw [exec_decodeRx, stepOf_inBody_of_isPrint b (of_all_of_prefix hclean hpre)]
  exact congrArg Host.Outcome.next (store_of_prefix .body _ hfits hpre)

/-- A CRC field of digits that fits is stored whole (R157). -/
theorem silentFeed_crc {s : State} {f : Bytes} (h B : Bytes) (hhex : f.all isHex = true)
    (hfits : fits s.params.crcCap f) :
    SilentFeed f (parsing ⟨.inCrc, h, B, []⟩ s) (parsing ⟨.inCrc, h, B, f⟩ s) := by
  refine silentFeed_field (field := fun pre => ⟨.inCrc, h, B, pre⟩) fun pre b hpre => ?_
  rw [exec_decodeRx, stepOf_inCrc_of_isHex b (of_all_of_prefix hhex hpre)]
  exact congrArg Host.Outcome.next (store_of_prefix .crc _ hfits hpre)

/-- An STX after the header opens the body (R142). -/
theorem silentFeed_stx (s : State) (h body crc : Bytes) :
    SilentFeed [stx] (parsing ⟨.inHeader, h, body, crc⟩ s) (parsing ⟨.inBody, h, [], crc⟩ s) :=
  silentFeed_singleton rfl

/-- An ETX after the body opens the CRC field (R149). -/
theorem silentFeed_etx (s : State) (h B crc : Bytes) :
    SilentFeed [etx] (parsing ⟨.inBody, h, B, crc⟩ s) (parsing ⟨.inCrc, h, B, []⟩ s) :=
  silentFeed_singleton rfl

/-- An EOT after a CRC field that matches gives the frame out (R156). -/
theorem feed_eot_of_crcMatch {B f : Bytes} (hmatch : crcMatch B f = true) (s : State) (h : Bytes) :
    feed [eot] (parsing ⟨.inCrc, h, B, f⟩ s) =
      some ([.frame h B], setOut (.frame h B) (parserReset (emit (.frameOk h B) s))) := by
  have hexec : exec (decodeRx .inCrc eot) (parsing ⟨.inCrc, h, B, f⟩ s) =
      .next (setOut (.frame h B) (parserReset (emit (.frameOk h B) s))) :=
    congrArg Host.Outcome.next (if_pos hmatch)
  exact feed_singleton (s := parsing ⟨.inCrc, h, B, f⟩ s) hexec

/-- All of a frame but its EOT is received in silence (R131). -/
theorem silentFeed_frame (s : State) {h B f : Bytes} (hh : clean h = true) (hB : clean B = true)
    (hf : f.all isHex = true) (hhfits : fits s.params.hdrCap h) (hBfits : fits s.params.bodyCap B)
    (hffits : fits s.params.crcCap f) : ∃ es : List Event, es.length ≤ 1 ∧
      SilentFeed ([soh] ++ h ++ [stx] ++ B ++ [etx] ++ f) s
        (parsing ⟨.inCrc, h, B, f⟩ { s with evlog := s.evlog ++ es }) := by
  obtain ⟨⟨_, _, body, crc⟩, es, rfl, rfl, hes, hsoh⟩ := silentFeed_soh s
  have hheader := hsoh.append (silentFeed_header body crc hh hhfits)
  have hbody := (hheader.append (silentFeed_stx _ h body crc)).append (silentFeed_body h crc hB hBfits)
  have hcrc := (hbody.append (silentFeed_etx _ h B crc)).append (silentFeed_crc h B hf hffits)
  exact ⟨es, hes, hcrc⟩

/-- Settles O16: the fields are stored in silence, and the CRC field the encoder wrote matches at the EOT. -/
theorem encodedFramesDecodeFromAnyState : Obligations.EncodedFramesDecodeFromAnyState := by
  intro s h B hh hB hhfits hBfits hcrcCap
  obtain ⟨hlen, hval, -⟩ := hexFieldReadsBack (crc32 B)
  have hffits : fits s.params.crcCap (hex8 (crc32 B)) := fun n hn => hlen.trans_le (hcrcCap n hn)
  obtain ⟨es, hes, hsilent⟩ := silentFeed_frame s hh hB (hex8_all_isHex (crc32 B)) hhfits hBfits hffits
  have hfeed := feed_append_of_some hsilent (feed_eot_of_crcMatch (crcMatch_iff.mpr hval) _ h)
  have hcount : ([soh] ++ h ++ [stx] ++ B ++ [etx] ++ hex8 (crc32 B)).length = h.length + B.length + 11 := by
    simp only [List.length_append, List.length_singleton, hlen]
    omega
  rw [hcount] at hfeed
  exact ⟨_, hfeed, rfl, es, rfl, hes⟩

end RoundTrip

end Sys2Proof.Proofs
end

section
/-! PROOFS. The decoder (R135 to R162): each row of the opcode table does what its step does, every received
byte has a step, the steps are the cells of the table of R138, and no received byte keeps a later frame from
being decoded. -/

namespace Sys2Proof.Proofs

open Sys2Proof Sys2Proof.Machine Sys2Proof.Claims Sys2Proof.Laws

section Steps

/-- The parser state a decoder step belongs to (R139). -/
def homeState : StepName → PState
  | .idleSkip | .idleSoh => .idle
  | .hdrOther | .hdrSoh | .hdrStx | .hdrEtx | .hdrEot | .hdrPrint => .inHeader
  | .bodyOther | .bodySoh | .bodyStx | .bodyEtx | .bodyEot | .bodyPrint => .inBody
  | .crcNonhex | .crcSoh | .crcStx | .crcEtx | .crcEot | .crcHex => .inCrc

/-- The step a state and a byte select belongs to that state (R138, R139). -/
theorem homeState_stepOf (st : PState) (b : Byte) : homeState (stepOf st b) = st := by
  cases st <;> revert b <;> decide +kernel

/-- `t` differs from `s` in the parser, the output and at most one new event of the trace (R137). -/
def DecoderUpdate (s t : State) : Prop :=
  ∃ (q : Parser) (o : DecOut) (e : Option Event),
    t = { s with parser := q, decOut := o, evlog := s.evlog ++ e.toList }

theorem decoderUpdate_setParser (q : Parser) (s : State) : DecoderUpdate s (setOut .none (setParser q s)) :=
  ⟨q, .none, none, by simp [setOut, setParser]⟩

theorem decoderUpdate_restart (st : PState) (x : Byte) (q : Parser) (s : State) :
    DecoderUpdate s (restart st x q s) :=
  ⟨q, .none, some (.restart st x), rfl⟩

/-- An event, the parser at rest and an output: every end of a frame (R156, R160, R253). -/
theorem decoderUpdate_reset (o : DecOut) (e : Event) (s : State) :
    DecoderUpdate s (setOut o (parserReset (emit e s))) :=
  ⟨Parser.empty, o, some e, rfl⟩

theorem decoderUpdate_store (full : Bool) (which : Buffer) (q : Parser) (s : State) :
    DecoderUpdate s (if full then overflow which s else setOut .none (setParser q s)) := by
  cases full with
  | true => exact decoderUpdate_reset _ _ s
  | false => exact decoderUpdate_setParser q s

theorem decoderUpdate_complete (s : State) : DecoderUpdate s (complete s) := by
  obtain ⟨-, heq⟩ | ⟨-, heq⟩ := complete_cases s <;> rw [heq] <;> exact decoderUpdate_reset _ _ s

/-- Every step takes place in its own parser state, whatever the byte, and keeps to the decoder (R135, R137,
R139). -/
theorem run_eq_inPState (n : StepName) (b : Byte) (s : State) :
    ∃ t, n.run b s = inPState (homeState n) s t ∧ DecoderUpdate s t := by
  cases n with
  | idleSkip => exact ⟨_, rfl, decoderUpdate_setParser s.parser s⟩
  | idleSoh | hdrStx | hdrEtx | bodyEtx => exact ⟨_, rfl, decoderUpdate_setParser _ s⟩
  | hdrSoh | bodySoh | bodyStx | crcSoh | crcStx | crcEtx => exact ⟨_, rfl, decoderUpdate_restart _ _ _ s⟩
  | hdrOther | hdrEot | bodyOther | bodyEot | crcNonhex => exact ⟨_, rfl, decoderUpdate_reset _ _ s⟩
  | hdrPrint | bodyPrint | crcHex => exact ⟨_, rfl, decoderUpdate_store _ _ _ s⟩
  | crcEot => exact ⟨_, rfl, decoderUpdate_complete s⟩

/-- Every byte has a step in every parser state (R135). -/
theorem exec_decodeRx_total (s : State) (b : Byte) :
    ∃ t, exec (decodeRx s.parser.pstate b) s = .next t ∧ DecoderUpdate s t := by
  obtain ⟨t, hrun, hupdate⟩ := run_eq_inPState (stepOf s.parser.pstate b) b s
  refine ⟨t, ?_, hupdate⟩
  rw [exec_decodeRx, hrun, inPState_of_pstate (homeState_stepOf _ _).symm]

/-- Settles O13, from the totality of the decoder and what its steps write. -/
theorem everyByteHasAStepThatTouchesOnlyTheDecoder :
    Obligations.EveryByteHasAStepThatTouchesOnlyTheDecoder := by
  intro s b
  obtain ⟨_, hexec, q, o, e, rfl⟩ := exec_decodeRx_total s b
  exact ⟨_, hexec, rfl, e.toList, rfl, by cases e <;> simp⟩

/-- A received-byte row is refused outside its own parser state (R139). -/
theorem exec_of_rxWord_of_ne {i : Instr} {st : PState} {b : Byte} {s : State} (hword : i.rxWord = some (st, b))
    (hne : s.parser.pstate ≠ st) : exec i s = .refused .otherParserState := by
  obtain ⟨t, hrun, -⟩ := run_eq_inPState (stepOf st b) b s
  rw [← decodeRx_of_rxWord hword, exec_decodeRx, hrun, homeState_stepOf, inPState_of_ne hne]

/-- Settles O12: the guard of each meaning, found false. -/
theorem disabledInstructionsStopByName : Obligations.DisabledInstructionsStopByName := by
  refine ⟨fun i st b s => exec_of_rxWord_of_ne, ?ports, fun s h => if_neg h,
    fun body s h => ⟨if_neg h, if_neg h⟩, fun n s h => if_pos h⟩
  case ports =>
    intro p body n s hp
    have hnot : ¬ p < s.ports.length := Nat.not_lt.mpr hp
    exact ⟨onPort_of_not_lt hnot _, onPort_of_not_lt hnot _, onPort_of_not_lt hnot _, onPort_of_not_lt hnot _⟩

end Steps

section History

/-- Whatever is received, the decoder takes it byte by byte, one output each, with the configuration kept
(R61, R135). -/
theorem feed_total (g : Bytes) (s : State) :
    ∃ outs t, feed g s = some (outs, t) ∧ outs.length = g.length ∧ t.params = s.params := by
  induction g generalizing s with
  | nil => exact ⟨[], s, rfl, rfl, rfl⟩
  | cons b g ih =>
    obtain ⟨_, hexec, q, o, e, rfl⟩ := exec_decodeRx_total s b
    obtain ⟨outs, t, hfeed, hlen, hparams⟩ := ih { s with parser := q, decOut := o, evlog := s.evlog ++ e.toList }
    refine ⟨o :: outs, t, ?_, congrArg (· + 1) hlen, hparams⟩
    rw [feed_cons_of_next hexec, hfeed, Option.map_some]

/-- Where INV1 and INV2 hold, an SOH opens a header with nothing left in the buffers (R140, R141, R147, R153). -/
theorem exec_soh_of_inv12 {s : State} (hinv : Inv12 s.parser) :
    ∃ t, exec (decodeRx s.parser.pstate soh) s = .next t ∧ t.parser = ⟨.inHeader, [], [], []⟩ := by
  obtain ⟨t, hexec, -⟩ := exec_decodeRx_total s soh
  obtain ⟨⟨st, hdr, body, crc⟩, es, rfl, rfl, -, hsilent⟩ := silentFeed_soh s
  have hparser : t.parser = ⟨.inHeader, [], body, crc⟩ := by
    obtain ⟨-, rfl⟩ := Prod.mk.inj (Option.some.inj ((feed_singleton hexec).symm.trans hsilent))
    rfl
  obtain ⟨q, o, ev, rfl, hstep, -⟩ := decoderStep_of_exec hexec
  obtain rfl : q = ⟨.inHeader, [], body, crc⟩ := hparser
  obtain ⟨rfl, rfl⟩ : body = [] ∧ crc = [] := (hstep.inv12 hinv).2 rfl
  exact ⟨_, hexec, rfl⟩

/-- Settles O17: the history ends in some parser state, and an encoded frame decodes from any. -/
theorem noHistoryPreventsALaterFrame : Obligations.NoHistoryPreventsALaterFrame := by
  refine ⟨fun s g h B hh hB hhfits hBfits hcrcCap => ?_, fun s hinv => exec_soh_of_inv12 hinv⟩
  obtain ⟨outs, u, hhistory, hlen, hparams⟩ := feed_total g s
  rw [← hparams] at hhfits hBfits hcrcCap
  obtain ⟨t, hframe, hend, -⟩ := encodedFramesDecodeFromAnyState u h B hh hB hhfits hBfits hcrcCap
  refine ⟨outs ++ List.replicate (h.length + B.length + 11) .none, t, ?_, ?_, congrArg State.parser hend⟩
  · rw [feed_append_of_some hhistory hframe, List.append_assoc]
  · rw [List.length_append, List.length_replicate, hlen]
    omega

end History

section Table

/-- A byte with room in its buffer is stored (R144, R151, R157). -/
theorem store_parser {cap : Option Nat} {buf : Bytes} (hroom : bufferFull cap buf = false) (which : Buffer)
    (q : Parser) (s : State) :
    (if bufferFull cap buf then overflow which s else setOut .none (setParser q s)).parser = q := by
  rw [hroom]; rfl

/-- The parser is at rest after the completion step, whatever the CRC field (R156). -/
theorem complete_parser (s : State) : (complete s).parser = Parser.empty := by
  obtain ⟨-, heq⟩ | ⟨-, heq⟩ := complete_cases s <;> rw [heq] <;> rfl

/-- The completion step always gives an output (R156, R161). -/
theorem complete_decOut_ne_none (s : State) : (complete s).decOut ≠ .none := by
  obtain ⟨-, heq⟩ | ⟨-, heq⟩ := complete_cases s <;> rw [heq] <;> nofun

/-- With room in every buffer, the step a byte selects moves the parser as its cell of the table says (R138). -/
theorem run_stepOf_tableCell {q : Parser} {s : State} (b : Byte)
    (hhdr : bufferFull s.params.hdrCap q.hdrBuf = false) (hbody : bufferFull s.params.bodyCap q.bodyBuf = false)
    (hcrc : bufferFull s.params.crcCap q.crcBuf = false) :
    ∃ t, (stepOf q.pstate b).run b (setParser q s) = .next t ∧ t.parser = tableCell q b := by
  obtain ⟨st, hdr, body, crc⟩ := q
  cases st with
  | idle => cases hcls : cls b <;> simp only [stepOf, tableCell, hcls] <;> exact ⟨_, rfl, rfl⟩
  | inHeader =>
    cases hcls : cls b <;> simp only [stepOf, tableCell, hcls]
    case print => exact ⟨_, rfl, store_parser hhdr _ _ _⟩
    all_goals exact ⟨_, rfl, rfl⟩
  | inBody =>
    cases hcls : cls b <;> simp only [stepOf, tableCell, hcls]
    case print => exact ⟨_, rfl, store_parser hbody _ _ _⟩
    all_goals exact ⟨_, rfl, rfl⟩
  | inCrc =>
    cases hcls : cls b <;> simp only [stepOf, tableCell, hcls]
    case print | other =>
      split
      · exact ⟨_, rfl, store_parser hcrc _ _ _⟩
      · exact ⟨_, rfl, rfl⟩
    case eot => exact ⟨_, rfl, complete_parser _⟩
    all_goals exact ⟨_, rfl, rfl⟩

/-- Only the completion step gives anything out (R161). -/
theorem run_decOut_ne_none_iff {n : StepName} {b : Byte} {s t : State} (h : n.run b s = .next t) :
    t.decOut ≠ .none ↔ n = .crcEot := by
  cases n <;> obtain ⟨-, rfl⟩ := inPState_eq_next_iff.1 h
  case crcEot => exact iff_of_true (complete_decOut_ne_none s) rfl
  case hdrPrint | bodyPrint | crcHex => split <;> exact iff_of_false (fun hne => hne rfl) nofun
  all_goals exact iff_of_false (fun hne => hne rfl) nofun

/-- The completion step is selected by EOT in `InCrc` alone (R138). -/
theorem stepOf_eq_crcEot_iff (st : PState) (b : Byte) : stepOf st b = .crcEot ↔ st = .inCrc ∧ b = 0x04 := by
  cases st <;> revert b <;> decide +kernel

/-- Settles O14, from the step the table selects: its parser and its output. -/
theorem decoderFollowsTheTransitionTable : Obligations.DecoderFollowsTheTransitionTable := by
  intro s b hhdr hbody hcrc
  obtain ⟨t, hrun, hparser⟩ := run_stepOf_tableCell (q := s.parser) (s := s) b hhdr hbody hcrc
  exact ⟨t, (exec_decodeRx _ b s).trans hrun, hparser,
    (run_decOut_ne_none_iff hrun).trans (stepOf_eq_crcEot_iff _ b)⟩

end Table

section Rows

/-- What a row of the opcode table does in its own parser state: what its step does. -/
theorem exec_row {i : Instr} {n : StepName} {b : Byte} {st : PState} {s t : State}
    (hrow : rowStep i = some (n, b)) (hrun : n.run b s = inPState st s t) (hst : s.parser.pstate = st) :
    exec i s = .next t := by
  rw [exec_of_rowStep hrow, hrun, inPState_of_pstate hst]

theorem bufferFull_iff {cap : Option Nat} {buf : Bytes} : bufferFull cap buf = true ↔ cap = some buf.length := by
  cases cap <;> simp [bufferFull, eq_comm]

/-- A row that stores its byte: at capacity the buffer overflows, otherwise the byte is appended (R160). -/
theorem exec_storing_row {i : Instr} {n : StepName} {b : Byte} {st : PState} {s : State} {cap : Option Nat}
    {buf : Bytes} {which : Buffer} {q : Parser} (hrow : rowStep i = some (n, b))
    (hrun : n.run b s = inPState st s
      (if bufferFull cap buf then overflow which s else setOut .none (setParser q s)))
    (hst : s.parser.pstate = st) :
    (cap ≠ some buf.length → exec i s = .next { s with parser := q, decOut := .none }) ∧
    (cap = some buf.length → exec i s = .next (overflowed which s)) := by
  rw [exec_row hrow hrun hst]
  refine ⟨fun hroom => congrArg _ (if_neg (mt bufferFull_iff.mp hroom)), fun hfull => ?_⟩
  exact congrArg _ (if_pos (bufferFull_iff.mpr hfull))

/-- Settles O1. -/
theorem idleSohOpensTheHeader : Obligations.IdleSohOpensTheHeader := fun _ => exec_row rfl rfl

/-- Settles O2: all eight rows are the one step that skips its byte. -/
theorem idleSkipWritesNothing : Obligations.IdleSkipWritesNothing := by
  intro s hst
  have hskip {i : Instr} {b : Byte} (hrow : rowStep i = some (.idleSkip, b)) :
      exec i s = .next { s with decOut := .none } := exec_row hrow rfl hst
  exact ⟨hskip rfl, fun _ => hskip rfl, fun _ => hskip rfl, fun _ => hskip rfl, fun _ => hskip rfl,
    fun _ => hskip rfl, fun _ => hskip rfl, fun _ => hskip rfl⟩

/-- Settles O3: each row's step is a restart. -/
theorem sohOutsideIdleRestartsTheFrame : Obligations.SohOutsideIdleRestartsTheFrame :=
  fun _ => ⟨exec_row rfl rfl, exec_row rfl rfl, exec_row rfl rfl⟩

/-- Settles O4. -/
theorem stxOpensOrRestartsTheBody : Obligations.StxOpensOrRestartsTheBody :=
  fun _ => ⟨exec_row rfl rfl, exec_row rfl rfl, exec_row rfl rfl⟩

/-- Settles O5. -/
theorem etxOpensOrRestartsTheCrc : Obligations.EtxOpensOrRestartsTheCrc :=
  fun _ => ⟨exec_row rfl rfl, exec_row rfl rfl, exec_row rfl rfl⟩

/-- Settles O6: all nine rows are the one step that stores a header byte. -/
theorem hdrPrintAppendsOrOverflows : Obligations.HdrPrintAppendsOrOverflows := by
  intro s hst
  have hstore {i : Instr} {b : Byte} (hrow : rowStep i = some (.hdrPrint, b)) := exec_storing_row hrow rfl hst
  refine ⟨fun hroom => ?room, fun hfull => ?full⟩
  case room =>
    have happend {i : Instr} {b : Byte} (hrow : rowStep i = some (.hdrPrint, b)) := (hstore hrow).1 hroom
    exact ⟨fun _ => happend rfl, fun _ => happend rfl, fun _ => happend rfl, fun _ => happend rfl,
      fun _ => happend rfl, fun _ => happend rfl, fun _ => happend rfl, fun _ => happend rfl, happend rfl⟩
  case full =>
    have hdrop {i : Instr} {b : Byte} (hrow : rowStep i = some (.hdrPrint, b)) := (hstore hrow).2 hfull
    exact ⟨fun _ => hdrop rfl, fun _ => hdrop rfl, fun _ => hdrop rfl, fun _ => hdrop rfl,
      fun _ => hdrop rfl, fun _ => hdrop rfl, fun _ => hdrop rfl, fun _ => hdrop rfl, hdrop rfl⟩

/-- Settles O7: all nine rows are the one step that stores a body byte. -/
theorem bodyPrintAppendsOrOverflows : Obligations.BodyPrintAppendsOrOverflows := by
  intro s hst
  have hstore {i : Instr} {b : Byte} (hrow : rowStep i = some (.bodyPrint, b)) := exec_storing_row hrow rfl hst
  refine ⟨fun hroom => ?room, fun hfull => ?full⟩
  case room =>
    have happend {i : Instr} {b : Byte} (hrow : rowStep i = some (.bodyPrint, b)) := (hstore hrow).1 hroom
    exact ⟨fun _ => happend rfl, fun _ => happend rfl, fun _ => happend rfl, fun _ => happend rfl,
      fun _ => happend rfl, fun _ => happend rfl, fun _ => happend rfl, fun _ => happend rfl, happend rfl⟩
  case full =>
    have hdrop {i : Instr} {b : Byte} (hrow : rowStep i = some (.bodyPrint, b)) := (hstore hrow).2 hfull
    exact ⟨fun _ => hdrop rfl, fun _ => hdrop rfl, fun _ => hdrop rfl, fun _ => hdrop rfl,
      fun _ => hdrop rfl, fun _ => hdrop rfl, fun _ => hdrop rfl, fun _ => hdrop rfl, hdrop rfl⟩

/-- Settles O8: all ten rows are the one step that stores a digit. -/
theorem crcHexAppendsOrOverflows : Obligations.CrcHexAppendsOrOverflows := by
  intro s hst
  have hstore {i : Instr} {b : Byte} (hrow : rowStep i = some (.crcHex, b)) := exec_storing_row hrow rfl hst
  refine ⟨fun hroom => ?room, fun hfull => ?full⟩
  case room =>
    have happend {i : Instr} {b : Byte} (hrow : rowStep i = some (.crcHex, b)) := (hstore hrow).1 hroom
    exact ⟨fun _ => happend rfl, fun _ => happend rfl, happend rfl, fun _ => happend rfl, fun _ => happend rfl,
      happend rfl, happend rfl, fun _ => happend rfl, fun _ => happend rfl, happend rfl⟩
  case full =>
    have hdrop {i : Instr} {b : Byte} (hrow : rowStep i = some (.crcHex, b)) := (hstore hrow).2 hfull
    exact ⟨fun _ => hdrop rfl, fun _ => hdrop rfl, hdrop rfl, fun _ => hdrop rfl, fun _ => hdrop rfl,
      hdrop rfl, hdrop rfl, fun _ => hdrop rfl, fun _ => hdrop rfl, hdrop rfl⟩

/-- Settles O9. -/
theorem eotBeforeTheCrcAbandonsTheFrame : Obligations.EotBeforeTheCrcAbandonsTheFrame :=
  fun _ => ⟨exec_row rfl rfl, exec_row rfl rfl⟩

/-- Settles O10: the rows of each parser state are the one step that drops an illegal byte there. -/
theorem illegalBytesAbandonTheFrame : Obligations.IllegalBytesAbandonTheFrame := by
  refine fun s => ⟨fun hst => ?header, fun hst => ?body, fun hst => ?crc⟩
  case header =>
    have hillegal {i : Instr} {b : Byte} (hrow : rowStep i = some (.hdrOther, b)) :
        exec i s = .next (invalidated .inHeader b s) := exec_row hrow rfl hst
    exact ⟨hillegal rfl, hillegal rfl, fun _ => hillegal rfl, fun _ => hillegal rfl, fun _ => hillegal rfl,
      hillegal rfl⟩
  case body =>
    have hillegal {i : Instr} {b : Byte} (hrow : rowStep i = some (.bodyOther, b)) :
        exec i s = .next (invalidated .inBody b s) := exec_row hrow rfl hst
    exact ⟨hillegal rfl, hillegal rfl, fun _ => hillegal rfl, fun _ => hillegal rfl, fun _ => hillegal rfl,
      hillegal rfl⟩
  case crc =>
    have hillegal {i : Instr} {b : Byte} (hrow : rowStep i = some (.crcNonhex, b)) :
        exec i s = .next (invalidated .inCrc b s) := exec_row hrow rfl hst
    exact ⟨hillegal rfl, hillegal rfl, fun _ => hillegal rfl, fun _ => hillegal rfl, fun _ => hillegal rfl,
      fun _ => hillegal rfl, fun _ => hillegal rfl, fun _ => hillegal rfl, hillegal rfl, hillegal rfl,
      fun _ => hillegal rfl, fun _ => hillegal rfl, hillegal rfl, hillegal rfl, fun _ => hillegal rfl,
      fun _ => hillegal rfl, fun _ => hillegal rfl⟩

/-- Settles O11: the completion step, by the CRC test of R118. -/
theorem crcEotCompletesTheFrame : Obligations.CrcEotCompletesTheFrame := by
  intro s hst
  have hexec : exec .crcEot s = .next (complete s) := exec_row rfl rfl hst
  obtain ⟨hmatch, heq⟩ | ⟨hmismatch, heq⟩ := complete_cases s <;> rw [hexec, heq]
  · have hval := crcMatch_iff.mp hmatch
    exact ⟨fun _ => rfl, fun hne => absurd hval hne⟩
  · have hval := mt crcMatch_iff.mpr (Bool.eq_false_iff.mp hmismatch)
    exact ⟨fun heq => absurd heq hval, fun _ => rfl⟩

end Rows

end Sys2Proof.Proofs
end

section
/-! PROOFS. The timed `DECODE` (R171 to R180): its start, its ticks, the byte step with what stands around the
decoded instruction, its ends, and the bound on its length that they give together. -/

namespace Sys2Proof.Proofs

open Sys2Proof Sys2Proof.Machine Sys2Proof.Claims Sys2Proof.Laws

section StartAndTicks

/-- `DecodeStart` where its precondition holds (R171). -/
theorem execDecode_of_idle {s : State} (hidle : s.decActive = false) (n : Nat) :
    execDecode n s = .next (decodeStart n s) :=
  if_neg (by simp [hidle])

/-- A drained line starts the `DECODE` with the latched timeout and enters the receive phase (R194). -/
theorem drainStep_of_drained {s : State} (hd : s.txDrained = true) (hidle : s.decActive = false) :
    drainStep s = .next { decodeStart s.curTimeout s with tphase := .recv } := by
  rw [drainStep, if_pos hd]
  exact congrArg (andThen · _) (execDecode_of_idle hidle s.curTimeout)

/-- The sequencer's own step in `T_Drain` (R194). -/
theorem step_own_of_drain {s : State} {rest : List Move} (hr : Ready s .own rest) (hph : s.tphase = .drain)
    (hx : s.xpErr = none) : step s = drainStep { s with schedule := rest } := by
  obtain ⟨hc, hs⟩ := hr
  rw [step_of_move hc hs]
  simp [applyMove, sequencerStep, unlessXpErr, hph, hx]

theorem tick_of_running {s : State} (hrun : s.decActive = true) (hpos : 0 < s.decTimer) :
    tick s = { s with decTimer := s.decTimer - 1 } := if_pos ⟨hrun, hpos⟩

/-- With no `DECODE` running, or its timer at zero, a tick changes nothing (R172). -/
theorem tick_of_stopped {s : State} (h : s.decActive = false ∨ s.decTimer = 0) : tick s = s :=
  if_neg fun ⟨hrun, hpos⟩ => h.elim (fun hidle => Bool.false_ne_true (hidle.symm.trans hrun)) hpos.ne'

theorem step_tick {s : State} {rest : List Move} (hr : Ready s .tick rest) :
    step s = .next (tick { s with schedule := rest }) := step_of_move hr.1 hr.2

/-- Settles O26. -/
theorem decodeStartLoadsTheTimer : Obligations.DecodeStartLoadsTheTimer :=
  fun _ n hidle => execDecode_of_idle hidle n

/-- Settles O27. -/
theorem tickCountsTheTimerDown : Obligations.TickCountsTheTimerDown := by
  intro s rest hr
  exact ⟨fun hrun hpos => (step_tick hr).trans (congrArg _ (tick_of_running hrun hpos)),
    fun hstopped => (step_tick hr).trans (congrArg _ (tick_of_stopped hstopped))⟩

/-- A run through `n` ticks takes `n` from the timer of a running `DECODE` that has as many left (R172). -/
theorem run_ticks {n : Nat} {s : State} {rest : List Move} (hc : configOk s = true)
    (hrun : s.decActive = true) (hn : n ≤ s.decTimer) (hs : s.schedule = List.replicate n .tick ++ rest)
    (k : Nat) :
    Host.Core.run Sys2Proof.core (n + k) s =
      Host.Core.run Sys2Proof.core k { s with decTimer := s.decTimer - n, schedule := rest } := by
  induction n generalizing s with
  | zero =>
    have hsame : { s with decTimer := s.decTimer - 0, schedule := rest } = s := by
      have hrest : s.schedule = rest := hs
      rw [← hrest, Nat.sub_zero]
    rw [hsame, Nat.zero_add]
  | succ n ih =>
    have hstep : step s = .next { s with decTimer := s.decTimer - 1, schedule := List.replicate n .tick ++ rest } :=
      (tickCountsTheTimerDown s _ ⟨hc, hs⟩).1 hrun (by omega)
    have hrest := ih (s := { s with decTimer := s.decTimer - 1, schedule := List.replicate n .tick ++ rest })
      hc hrun (Nat.le_sub_one_of_lt hn) rfl
    rw [Nat.add_right_comm, run_succ hstep, hrest, Nat.sub_sub, Nat.add_comm 1 n]

end StartAndTicks

section Ends

/-- The sequencer's own step in `T_Recv` is the running `DECODE`'s (R195). -/
theorem step_own_of_recv {s : State} {rest : List Move} (hr : Ready s .own rest) (hph : s.tphase = .recv) :
    step s = recvStep { s with schedule := rest } := by
  obtain ⟨hc, hs⟩ := hr
  rw [step_of_move hc hs]
  simp [applyMove, sequencerStep, hph]

/-- A Transport failure comes before everything else a running `DECODE` can do (R177). -/
theorem recvStep_of_xpErr {s : State} {e : XpErr} (hrun : s.decActive = true) (hx : s.xpErr = some e) :
    recvStep s = .next (recvFail e s) := by
  simp [recvStep, hrun, hx]

/-- An expired timer comes before the backlog (R173). -/
theorem recvStep_of_expired {s : State} (hrun : s.decActive = true) (hx : s.xpErr = none)
    (hzero : s.decTimer = 0) : recvStep s = .next (recvExpire s) := by
  simp [recvStep, timerExpired, hrun, hx, hzero]

/-- With time left the byte at the front of the backlog is taken (R174). -/
theorem recvStep_of_byte {s : State} {b : Byte} {fifo : Bytes} (hrun : s.decActive = true)
    (hx : s.xpErr = none) (hpos : 0 < s.decTimer) (hf : s.rxFifo = b :: fifo) : recvStep s = byteStep b s := by
  simp [recvStep, timerExpired, hrun, hx, hpos.ne', hf]

/-- An answer that finishes with a record whose absent fields are free is the finish of R205 written out. -/
theorem finished_of_finish {a : Answer} {t u : State} {p : Nat} {o : TxOutcome} {d : BitVec 3} {h B : Bytes}
    (hown : t.lockOwner = some p) (ha : a = .next (finish (plainResult o d h B u) t)) :
    ∃ (v : JsonValue) (c : Int) (m : Text), a = .next (finished p o d false h B v c m t) :=
  ⟨_, _, _, ha.trans (congrArg _ (finish_of_owner hown _))⟩

/-- The owner's port after the finish: the result is posted there, and its request is as it was (R205). -/
theorem finished_port {p : Nat} {s : State} (hp : p < s.ports.length) {o : TxOutcome} {d : BitVec 3} {ok : Bool}
    {h B : Bytes} {v : JsonValue} {c : Int} {m : Text} :
    (finished p o d ok h B v c m s).ports[p]? = some { s.ports[p] with
      resValid := true,
      res := { outcome := o, diag := d, ok := ok, header := h, body := B, value := v, appCode := c,
               appMsg := m } } := by
  simp [finished, hp]

/-- The diagnostic of a failure report, as R99 numbers it. -/
theorem diagOfXpErr_eq (e : XpErr) : diagOfXpErr e = if e = .writeFail then 1 else 2 := by
  cases e <;> rfl

/-- Settles O30. -/
theorem expiryEndsTheTransactionInTimeout : Obligations.ExpiryEndsTheTransactionInTimeout := by
  intro s p rest hr hph hrun hzero hx hown
  have hstep : step s = .next (recvExpire { s with schedule := rest }) :=
    (step_own_of_recv hr hph).trans (recvStep_of_expired hrun hx hzero)
  exact finished_of_finish hown hstep

/-- Settles O33. -/
theorem transportFailureEndsTheDecode : Obligations.TransportFailureEndsTheDecode := by
  intro s p e rest hr hph hrun hx hown
  have hstep : step s = .next (recvFail e { s with schedule := rest }) :=
    (step_own_of_recv hr hph).trans (recvStep_of_xpErr hrun hx)
  rw [← diagOfXpErr_eq]
  exact finished_of_finish hown hstep

end Ends

section ByteStep

/-- The byte step pops the byte, runs its instruction and goes on from the state that leaves (R174). -/
theorem byteStep_of_exec {s t : State} {b : Byte} {fifo : Bytes} (hf : s.rxFifo = b :: fifo)
    (h : exec (decodeRx s.parser.pstate b) { s with rxFifo := fifo } = .next t) : byteStep b s = afterByte t := by
  have hdrop : rxDrop s = { s with rxFifo := fifo } := by simp [rxDrop, hf]
  simp [byteStep, runDecoded, decode, hdrop, h]

theorem afterByte_of_none {t : State} (h : t.decOut = .none) : afterByte t = .next t := by
  simp [afterByte, h]

theorem afterByte_of_crcFail {t : State} (h : t.decOut = .crcFail) :
    afterByte t = .next (finish (crcFailResult t) (decodeEnd .crcFail t)) := by
  simp [afterByte, h]

theorem afterByte_of_frame {t : State} {h B : Bytes} (ho : t.decOut = .frame h B) :
    afterByte t = frameEnd h B t := by
  simp [afterByte, ho]

/-- A frame with header `"RESP"` is the instruction `HEADER.RESP` (R201). -/
theorem frameEnd_resp (B : Bytes) (s : State) :
    frameEnd hdrRESP B s = exec (.headerResp B) (decodeEnd (.frame hdrRESP B) s) := rfl

/-- A frame with header `"ERR"` is the instruction `HEADER.ERR` (R202). -/
theorem frameEnd_err (B : Bytes) (s : State) :
    frameEnd hdrERR B s = exec (.headerErr B) (decodeEnd (.frame hdrERR B) s) := rfl

/-- A frame with a header the table does not hold is classified as unexpected (R203). -/
theorem frameEnd_of_unexpected {h : Bytes} (hresp : h ≠ hdrRESP) (herr : h ≠ hdrERR) (B : Bytes) (s : State) :
    frameEnd h B s = .next (finish (unexpectedResult h B s) (decodeEnd (.frame h B) s)) := by
  simp [frameEnd, decode, decodeRxFrame, runDecoded, hresp, herr]

/-- A received byte leaves the lock alone (R135). -/
theorem lockOwner_of_exec_decodeRx {s t : State} {b : Byte}
    (h : exec (decodeRx s.parser.pstate b) s = .next t) : t.lockOwner = s.lockOwner := by
  obtain ⟨q, o, es, rfl, -, -⟩ := decoderStep_of_exec h
  rfl

/-- Settles O31: the byte's instruction is run, and its output decides what follows. -/
theorem stepRunsTheReceivedByte : Obligations.StepRunsTheReceivedByte := by
  intro s t p b fifo rest hr hph hrun hpos hx hown hf hexec
  have hstep : step s = afterByte t :=
    calc step s
      _ = recvStep { s with schedule := rest } := step_own_of_recv hr hph
      _ = byteStep b { s with schedule := rest } := recvStep_of_byte hrun hx hpos hf
      _ = afterByte t := byteStep_of_exec hf hexec
  have hlock : t.lockOwner = some p :=
    (lockOwner_of_exec_decodeRx (s := { s with schedule := rest, rxFifo := fifo }) hexec).trans hown
  refine ⟨fun ho => ?goesOn, fun ho => ?crcFail, fun B ho => ?resp, fun B ho => ?err,
    fun h B ho hresp herr => ?other⟩
  case goesOn => exact hstep.trans (afterByte_of_none ho)
  case crcFail => exact finished_of_finish hlock (hstep.trans (afterByte_of_crcFail ho))
  case resp => exact hstep.trans ((afterByte_of_frame ho).trans (frameEnd_resp B t))
  case err => exact hstep.trans ((afterByte_of_frame ho).trans (frameEnd_err B t))
  case other =>
    exact finished_of_finish hlock
      (hstep.trans ((afterByte_of_frame ho).trans (frameEnd_of_unexpected hresp herr B t)))

end ByteStep

section Bound

/-- Settles O28: the ticks bring the timer to zero, and the sequencer's next step is the expiry. -/
theorem decodeEndsWithinItsTicks : Obligations.DecodeEndsWithinItsTicks := by
  intro s p rest hc hph hrun hx hown hp hs
  have hticks := run_ticks hc hrun le_rfl hs 1
  obtain ⟨v, c, m, hexpire⟩ := expiryEndsTheTransactionInTimeout
    { s with decTimer := s.decTimer - s.decTimer, schedule := .own :: rest } p rest ⟨hc, rfl⟩ hph hrun
    (Nat.sub_self _) hx hown
  refine ⟨_, hticks.trans (run_succ hexpire), rfl, rfl, rfl, Nat.sub_self _, rfl, rfl, rfl, ?_⟩
  exact ⟨_, finished_port hp, rfl, rfl, rfl, rfl, rfl, rfl⟩

/-- Settles O29: the start of the `DECODE` loads zero, and the next step is its expiry. -/
theorem zeroTimeoutTakesNoByte : Obligations.ZeroTimeoutTakesNoByte := by
  intro s p rest hc hph hd hx hidle hzero hown hp hs
  have hstart : step s = .next
      { decodeStart s.curTimeout { s with schedule := .own :: rest } with tphase := .recv } :=
    (step_own_of_drain ⟨hc, hs⟩ hph hx).trans (drainStep_of_drained hd hidle)
  obtain ⟨v, c, m, hexpire⟩ := expiryEndsTheTransactionInTimeout
    { decodeStart s.curTimeout { s with schedule := .own :: rest } with tphase := .recv } p rest ⟨hc, rfl⟩ rfl rfl
    hzero hx hown
  refine ⟨_, (run_succ hstart).trans (run_succ hexpire), rfl, rfl, rfl, rfl, ?_⟩
  exact ⟨_, finished_port hp, rfl, rfl⟩

end Bound

end Sys2Proof.Proofs
end

section
/-! PROOFS. The transaction (R185 to R213): what a request does to the ports and the lock, the header values, and
the sequencer's own steps up to the receive phase. The lemmas about the ports come first, then each host
operation by the state of the lock, then the phases. -/

namespace Sys2Proof.Proofs

open Sys2Proof Sys2Proof.Machine Sys2Proof.Claims Sys2Proof.Laws

section Callers

theorem step_post {s : State} {p n : Nat} {op : BitVec 2} {B : Bytes} {rest : List Move}
    (hr : Ready s (.post p op B n) rest) : step s = .next (hostPost p op B n { s with schedule := rest }) :=
  step_of_move hr.1 hr.2

theorem step_collect {s : State} {p : Nat} {rest : List Move} (hr : Ready s (.collect p) rest) :
    step s = .next (hostCollect p { s with schedule := rest }) :=
  step_of_move hr.1 hr.2

/-- A port accepts a post exactly when neither record is pending and no transaction of its own is in flight
(R185). -/
theorem canPost_iff {p : Nat} {s : State} {q : Port} (hq : portAt p s = some q) :
    canPost p s = true ↔
      q.reqValid = false ∧ q.resValid = false ∧ (s.lockOwner ≠ some p ∨ s.tphase = .excl) := by
  simp [canPost, hq, lt_of_portAt hq, and_assoc]

/-- A post that is accepted writes the request record and its valid bit (R185). -/
theorem hostPost_of_canPost {p n : Nat} {s : State} (hcan : canPost p s = true)
    (hfits : s.params.timeoutFits n = true) (op : BitVec 2) (B : Bytes) :
    hostPost p op B n s = modifyPort p
      (fun q => { q with req := { op := op, body := B, timeout := n }, reqValid := true }) s :=
  if_pos ⟨hcan, hfits⟩

/-- A post to a busy port changes nothing (log entry 7). -/
theorem hostPost_of_not_canPost {p : Nat} {s : State} (hbusy : ¬ canPost p s = true) (op : BitVec 2)
    (B : Bytes) (n : Nat) : hostPost p op B n s = s :=
  if_neg fun h => hbusy h.1

/-- Settles O43, by whether the port is free. -/
theorem postIsAcceptedOnlyByAFreePort : Obligations.PostIsAcceptedOnlyByAFreePort := by
  intro s p q op B n rest hr hq
  have hfree := canPost_iff (s := { s with schedule := rest }) hq
  refine ⟨fun hreq hres hown hn => ?accepted, fun hbusy => ?busy⟩
  case accepted =>
    have hpost := hostPost_of_canPost (hfree.2 ⟨hreq, hres, hown⟩) (decide_eq_true hn) op B
    exact (step_post hr).trans (congrArg _ hpost)
  case busy =>
    refine (step_post hr).trans (congrArg _ (hostPost_of_not_canPost (fun hcan => ?_) op B n))
    obtain ⟨hreq, hres, hown⟩ := hfree.1 hcan
    obtain hreq' | hres' | ⟨hown', hph⟩ := hbusy
    · exact Bool.false_ne_true (hreq.symm.trans hreq')
    · exact Bool.false_ne_true (hres.symm.trans hres')
    · exact hown.elim (· hown') hph

/-- A posted result is handed over and its valid bit cleared (R186). -/
theorem hostCollect_of_resValid {p : Nat} {s : State} {q : Port} (hq : portAt p s = some q)
    (hres : q.resValid = true) : hostCollect p s =
      { modifyPort p (fun q => { q with resValid := false }) s with collected := some (p, q.res) } := by
  simp [hostCollect, hq, hres]

/-- Settles O44. -/
theorem collectTakesThePostedResult : Obligations.CollectTakesThePostedResult := by
  intro s p q rest hr hq hres
  have hcollect := hostCollect_of_resValid (s := { s with schedule := rest }) hq hres
  exact (step_collect hr).trans (congrArg _ hcollect)

end Callers

section Lock

/-- A request answered at once is the answer written out, its absent fields free (R189, R190, R209 to R212). -/
theorem exists_answered (p : Nat) (o : TxOutcome) (d : BitVec 3) (s : State) :
    ∃ (v : JsonValue) (c : Int) (m : Text), answerRequest p o d s = answered p o d v c m s :=
  ⟨_, _, _, congrArg (fun ports => { s with ports := ports, freeCount := s.freeCount + 1 })
    (List.modify_modify_eq _ _ _ _)⟩

/-- The same under a change `f` of the answered state, for an answer `a`. -/
theorem exists_answered_of_eq {a : Answer} {p : Nat} {o : TxOutcome} {d : BitVec 3} {s : State}
    {f : State → State} (h : a = .next (f (answerRequest p o d s))) :
    ∃ (v : JsonValue) (c : Int) (m : Text), a = .next (f (answered p o d v c m s)) := by
  obtain ⟨v, c, m, heq⟩ := exists_answered p o d s
  exact ⟨v, c, m, heq ▸ h⟩

theorem holds_iff {p : Nat} {s : State} : holds p s = true ↔ s.lockOwner = some p ∧ s.tphase = .excl := by
  simp [holds]

/-- The holder's request for the lock is refused (R210). -/
theorem requestLock_of_holds {p : Nat} {s : State} (h : holds p s = true) (g : State → State) :
    requestLock p g s = answerRequest p .refused diagHolding s :=
  if_pos h

/-- A request for the free lock goes on (R187, R209). -/
theorem requestLock_of_free {p : Nat} {s : State} (hfree : s.lockOwner = none) (g : State → State) :
    requestLock p g s = g s := by
  simp [requestLock, holds, hfree]

/-- A request for a lock that is held, not by its own port in `T_Excl`, waits (R188). -/
theorem requestLock_of_held {p o : Nat} {s : State} (hown : s.lockOwner = some o)
    (hother : o ≠ p ∨ s.tphase ≠ .excl) (g : State → State) : requestLock p g s = s := by
  have hnot : ¬ holds p s = true := fun h => by
    obtain ⟨howner, hexcl⟩ := holds_iff.1 h
    exact hother.elim (· (Option.some.inj (hown.symm.trans howner))) (· hexcl)
  rw [requestLock, if_neg hnot, if_neg (by simp [hown])]

/-- What the three requests for the lock do on one of the block's ports. -/
theorem exec_lockRequests {p : Nat} {s : State} (hp : p < s.ports.length) (B : Bytes) (n : Nat) :
    exec (.cmd p B n) s = .next (requestLock p (startTransaction .cmd p B n) s) ∧
    exec (.cmdNr p B n) s = .next (requestLock p (startTransaction .cmdNr p B n) s) ∧
    exec (.excl p) s = .next (requestLock p (grantHold p) s) :=
  ⟨onPort_of_lt hp _, onPort_of_lt hp _, onPort_of_lt hp _⟩

/-- Settles O39: each of the three is a request for the lock, and such a request waits. -/
theorem requestsWaitWhileTheLockIsHeld : Obligations.RequestsWaitWhileTheLockIsHeld := by
  intro s p o B n hp hown hother
  have hreqs := exec_lockRequests hp B n
  rwa [requestLock_of_held hown hother, requestLock_of_held hown hother,
    requestLock_of_held hown hother] at hreqs

/-- Settles O41: each of the three is a request for the lock, and the holder's is refused. -/
theorem holderMayOnlyRelease : Obligations.HolderMayOnlyRelease := by
  intro s p B n hp hown hexcl
  have hrefused := requestLock_of_holds (holds_iff.2 ⟨hown, hexcl⟩)
  obtain ⟨hcmd, hcmdNr, hexclReq⟩ := exec_lockRequests hp B n
  rw [hrefused] at hcmd hcmdNr hexclReq
  exact ⟨exists_answered_of_eq (f := id) hcmd, exists_answered_of_eq (f := id) hcmdNr,
    exists_answered_of_eq (f := id) hexclReq⟩

/-- Settles O40. -/
theorem exclIsGrantedTheFreeLock : Obligations.ExclIsGrantedTheFreeLock := by
  intro s p hp hfree
  have hgrant : exec (.excl p) s = .next (grantHold p s) :=
    (onPort_of_lt hp _).trans (congrArg _ (requestLock_of_free hfree _))
  exact exists_answered_of_eq
    (f := fun t => { t with lockOwner := some p, curOp := .excl, tphase := .excl }) hgrant

/-- `RELEASE` on one of the block's ports does not wait for the lock (R211, R212). -/
theorem exec_release {p : Nat} {s : State} (hp : p < s.ports.length) :
    exec (.release p) s = .next
      (if holds p s then releaseLock (answerRequest p .granted diagNone s)
       else answerRequest p .refused diagNotHolder s) :=
  onPort_of_lt hp _

/-- Settles O42, by whether the port holds the lock. -/
theorem releaseGivesUpAHoldOrIsRefused : Obligations.ReleaseGivesUpAHoldOrIsRefused := by
  intro s p hp
  have hexec := exec_release hp
  refine ⟨fun hown hexcl => ?holder, fun hother => ?other⟩
  case holder =>
    rw [if_pos (holds_iff.2 ⟨hown, hexcl⟩)] at hexec
    exact exists_answered_of_eq (f := releaseLock) hexec
  case other =>
    rw [if_neg (mt holds_iff.1 (not_and_or.2 hother))] at hexec
    exact exists_answered_of_eq (f := id) hexec

end Lock

section Start

/-- A body is turned away for its length exactly when it is longer than a finite `TX_CAP` (R189). -/
theorem bodyTooLong_iff {c : Params} {B : Bytes} :
    bodyTooLong c B = true ↔ ∃ k, c.txCap = some k ∧ k < B.length := by
  cases h : c.txCap <;> simp [bodyTooLong, h]

theorem bodyTooLong_eq_false {c : Params} {B : Bytes} (h : ∀ k, c.txCap = some k → B.length ≤ k) :
    bodyTooLong c B = false :=
  Bool.eq_false_iff.2 fun hlong => by
    obtain ⟨k, hk, hlt⟩ := bodyTooLong_iff.1 hlong
    exact absurd (h k hk) (Nat.not_le.2 hlt)

/-- With the lock free `CMD` and `CMD_NR` are judged for length and open state (R187, R189, R190). -/
theorem exec_start_of_free {p : Nat} {s : State} (hp : p < s.ports.length) (hfree : s.lockOwner = none)
    (B : Bytes) (n : Nat) :
    exec (.cmd p B n) s = .next (startTransaction .cmd p B n s) ∧
    exec (.cmdNr p B n) s = .next (startTransaction .cmdNr p B n s) := by
  obtain ⟨hcmd, hcmdNr, -⟩ := exec_lockRequests hp B n
  rw [requestLock_of_free hfree] at hcmd hcmdNr
  exact ⟨hcmd, hcmdNr⟩

theorem startTransaction_of_open {s : State} {B : Bytes} (hlen : bodyTooLong s.params B = false)
    (hopen : s.xpOpen = true) (op : HostOp) (p n : Nat) :
    startTransaction op p B n s = acquire op p B n s := by
  simp [startTransaction, hlen, hopen]

theorem startTransaction_of_tooLong {s : State} {B : Bytes} (hlen : bodyTooLong s.params B = true)
    (op : HostOp) (p n : Nat) :
    startTransaction op p B n s = answerRequest p .refused diagBodyTooLong s :=
  if_pos hlen

theorem startTransaction_of_closed {s : State} {B : Bytes} (hlen : bodyTooLong s.params B = false)
    (hclosed : s.xpOpen = false) (op : HostOp) (p n : Nat) :
    startTransaction op p B n s = answerRequest p .transportError diagNotOpen s := by
  simp [startTransaction, hlen, hclosed]

/-- Settles O37. -/
theorem cmdAcquiresTheLock : Obligations.CmdAcquiresTheLock := by
  intro s p B n hp hfree hfits hopen
  have hstart := exec_start_of_free hp hfree B n
  have hacquire := startTransaction_of_open (bodyTooLong_eq_false hfits) hopen
  rwa [hacquire, hacquire] at hstart

/-- Settles O38. -/
theorem cmdIsTurnedAwayForLengthOrClosedLine : Obligations.CmdIsTurnedAwayForLengthOrClosedLine := by
  intro s p B n hp hfree
  obtain ⟨hcmd, hcmdNr⟩ := exec_start_of_free hp hfree B n
  refine ⟨fun k hk hlong => ?tooLong, fun hfits hclosed => ?closed⟩
  case tooLong =>
    rw [startTransaction_of_tooLong (bodyTooLong_iff.2 ⟨k, hk, hlong⟩)] at hcmd hcmdNr
    exact ⟨exists_answered_of_eq (f := id) hcmd, exists_answered_of_eq (f := id) hcmdNr⟩
  case closed =>
    rw [startTransaction_of_closed (bodyTooLong_eq_false hfits) hclosed] at hcmd hcmdNr
    exact ⟨exists_answered_of_eq (f := id) hcmd, exists_answered_of_eq (f := id) hcmdNr⟩

end Start

section HeaderValues

/-- Settles O45: the flushed state with the frame loaded, and the frame's length by R127. -/
theorem headerCmdLoadsTheRequestFrame : Obligations.HeaderCmdLoadsTheRequestFrame := by
  intro s hph
  have hlen : (encodeFrame hdrCMD s.curBody).length = 3 + s.curBody.length + 12 := encodeFrame_length _ _
  exact ⟨if_pos hph, hlen.trans (by omega)⟩

/-- In the receive phase `HEADER.RESP` finishes with the classified record (R201). -/
theorem exec_headerResp_of_recv {s : State} (hph : s.tphase = .recv) (B : Bytes) :
    exec (.headerResp B) s = .next (finish (respResult B s) s) :=
  if_pos hph

/-- In the receive phase `HEADER.ERR` finishes with the device's text (R202). -/
theorem exec_headerErr_of_recv {s : State} (hph : s.tphase = .recv) (B : Bytes) :
    exec (.headerErr B) s = .next (finish (errResult B s) s) :=
  if_pos hph

/-- Settles O35: the record by its class, posted by the finish. -/
theorem respFrameIsClassifiedAndFinished : Obligations.RespFrameIsClassifiedAndFinished := by
  intro s p B hph hown
  refine ⟨Config.freeJson s.freeCount, Config.freeAppCode s.freeCount, Config.freeAppMsg s.freeCount, ?_⟩
  rw [exec_headerResp_of_recv hph, finish_of_owner hown, respResult]
  cases classifyResp B with
  | success w => rfl
  | applicationError code msg => rfl
  | protocolError g => rfl

/-- Settles O36. -/
theorem errFrameIsAProtocolError : Obligations.ErrFrameIsAProtocolError :=
  fun _ _ B hph hown => finished_of_finish hown (exec_headerErr_of_recv hph B)

end HeaderValues

section Phases

theorem step_own {s : State} {rest : List Move} (hr : Ready s .own rest) :
    step s = sequencerStep { s with schedule := rest } :=
  step_of_move hr.1 hr.2

/-- In `T_Flush` the header that is sent is the instruction `HEADER.CMD` (R191, R192). -/
theorem sequencerStep_of_flush {s : State} (hph : s.tphase = .flush) (hx : s.xpErr = none) :
    sequencerStep s = exec .headerCmd s := by
  simp [sequencerStep, hph, unlessXpErr, hx, runDecoded, decode]

/-- In `T_Send` the step is `SendByte` (R193). -/
theorem sequencerStep_of_send {s : State} (hph : s.tphase = .send) (hx : s.xpErr = none) :
    sequencerStep s = .next (sendByte s) := by
  simp [sequencerStep, hph, unlessXpErr, hx]

/-- A Transport failure comes before the step of each sending phase (R213). -/
theorem sequencerStep_of_xpErr {s : State} {e : XpErr}
    (hph : s.tphase = .flush ∨ s.tphase = .send ∨ s.tphase = .drain) (hx : s.xpErr = some e) :
    sequencerStep s = .next (finish (xpErrResult e s) (parserReset s)) := by
  obtain hph | hph | hph := hph <;> simp [sequencerStep, hph, unlessXpErr, hx]

/-- The request record of a port is run as the instruction it decodes to (R187). -/
theorem takeRequest_of_reqValid {p : Nat} {s : State} {q : Port} (h6 : s.tphase ≠ .code6)
    (h7 : s.tphase ≠ .code7) (hq : portAt p s = some q) (hreq : q.reqValid = true) :
    takeRequest p s = exec (decodeReq p q.req.op q.req.body q.req.timeout) s := by
  simp [takeRequest, phaseIllegal, h6, h7, hq, hreq, runDecoded, decode]

/-- Settles O32: the taken request, the flush and the drained line, each by what the sequencer fetches. -/
theorem stepRunsTheSequencersInstruction : Obligations.StepRunsTheSequencersInstruction := by
  intro s rest
  refine ⟨fun p q hr h6 h7 hq hreq => ?takes, fun hr hph hx => ?flushes, fun t hr hph hx hd hdecode => ?drains⟩
  case takes =>
    have htake := takeRequest_of_reqValid (s := { s with schedule := rest }) h6 h7 hq hreq
    exact (step_of_move hr.1 hr.2).trans htake
  case flushes => exact (step_own hr).trans (sequencerStep_of_flush hph hx)
  case drains =>
    rw [step_own_of_drain hr hph hx, drainStep, if_pos hd, hdecode, andThen_next]

/-- Settles O34. -/
theorem transportFailureEndsTheSending : Obligations.TransportFailureEndsTheSending := by
  intro s p e rest hr hph hx hown
  have hstep : step s = .next (finish (xpErrResult e { s with schedule := rest })
      (parserReset { s with schedule := rest })) :=
    (step_own hr).trans (sequencerStep_of_xpErr hph hx)
  rw [← diagOfXpErr_eq]
  exact finished_of_finish hown hstep

/-- While the line is not drained `T_Drain` waits (U15). -/
theorem drainStep_of_undrained {s : State} (hd : s.txDrained = false) : drainStep s = .next s :=
  if_neg (by simp [hd])

/-- Settles O47. -/
theorem drainStartsTheReceivePhase : Obligations.DrainStartsTheReceivePhase := by
  intro s rest hr hph hx hidle
  have hstep := step_own_of_drain hr hph hx
  exact ⟨fun hd => hstep.trans (drainStep_of_drained hd hidle),
    fun hd => hstep.trans (drainStep_of_undrained hd)⟩

end Phases

section Sending

/-- `SendByte` pushes the byte at the index and moves on; the last one enters `T_Drain` (R193). -/
theorem sendByte_of_lt {s : State} (hph : s.tphase = .send) (hlt : s.txIdx < s.txFrame.length) :
    sendByte s = { s with
      txWire := s.txWire ++ [s.txFrame[s.txIdx]], txIdx := s.txIdx + 1,
      tphase := if s.txIdx + 1 = s.txFrame.length then .drain else .send } := by
  rw [sendByte_of_byte (List.getElem?_eq_getElem hlt), hph]
  rfl

/-- The sequencer's own step in `T_Send` (R193). -/
theorem step_own_of_send {s : State} {rest : List Move} (hr : Ready s .own rest) (hph : s.tphase = .send)
    (hx : s.xpErr = none) (hlt : s.txIdx < s.txFrame.length) :
    step s = .next { s with
      schedule := rest, txWire := s.txWire ++ [s.txFrame[s.txIdx]], txIdx := s.txIdx + 1,
      tphase := if s.txIdx + 1 = s.txFrame.length then .drain else .send } :=
  calc step s
    _ = sequencerStep { s with schedule := rest } := step_own hr
    _ = .next (sendByte { s with schedule := rest }) := sequencerStep_of_send hph hx
    _ = _ := congrArg _ (sendByte_of_lt (s := { s with schedule := rest }) hph hlt)

/-- With `n + 1` bytes of the frame left, as many steps push them in order and end in `T_Drain` (R193). -/
theorem run_send {n : Nat} {s : State} {rest : List Move} (hc : configOk s = true) (hph : s.tphase = .send)
    (hx : s.xpErr = none) (hleft : s.txIdx + (n + 1) = s.txFrame.length)
    (hs : s.schedule = List.replicate (n + 1) .own ++ rest) :
    Host.Core.run Sys2Proof.core (n + 1) s = .next { s with
      schedule := rest, txWire := s.txWire ++ s.txFrame.drop s.txIdx, txIdx := s.txFrame.length,
      tphase := .drain } := by
  induction n generalizing s with
  | zero =>
    have hlt : s.txIdx < s.txFrame.length := by omega
    have hlast : s.txFrame.drop s.txIdx = [s.txFrame[s.txIdx]] := by
      rw [List.drop_eq_getElem_cons hlt, hleft, List.drop_length]
    rw [run_succ (step_own_of_send ⟨hc, hs⟩ hph hx hlt), run_zero, hlast, if_pos hleft, hleft]
    rfl
  | succ n ih =>
    have hlt : s.txIdx < s.txFrame.length := by omega
    have hnotLast : s.txIdx + 1 ≠ s.txFrame.length := by omega
    have hr : Ready s .own (List.replicate (n + 1) .own ++ rest) := ⟨hc, hs⟩
    have hstep := step_own_of_send hr hph hx hlt
    rw [if_neg hnotLast] at hstep
    have hrest := ih (s := { s with
      schedule := List.replicate (n + 1) .own ++ rest, txWire := s.txWire ++ [s.txFrame[s.txIdx]],
      txIdx := s.txIdx + 1, tphase := .send }) hc rfl hx ((Nat.succ_add_eq_add_succ _ _).trans hleft) rfl
    rw [List.drop_eq_getElem_cons hlt, List.append_cons, run_succ hstep]
    exact hrest

/-- Settles O46. -/
theorem wholeFrameIsSentInOrder : Obligations.WholeFrameIsSentInOrder := by
  intro s rest hc hph hx hlt hs
  obtain ⟨n, hn⟩ : ∃ n, s.txFrame.length - s.txIdx = n + 1 := ⟨_, (Nat.succ_pred (by omega)).symm⟩
  rw [hn] at hs ⊢
  exact run_send hc hph hx (by omega) hs

end Sending

end Sys2Proof.Proofs
end

section
/-! PROOFS. The response classifier (R222 to R226): one equation per branch of the error shape, of a parsed
body and of a whole body, in the order in which R226 tests them. -/

namespace Sys2Proof.Proofs

open Sys2Proof Sys2Proof.Machine Sys2Proof.Claims

section ErrorShape

theorem isInt_iff {q : Rat} : isInt q = true ↔ q.den = 1 := decide_eq_true_iff

/-- An integer code and a string message are handed to the caller as they stand (R224). -/
theorem classifyError_of_shape {e : JsonValue} {q : Rat} {m : Text} (hcode : member e keyCode = some (.num q))
    (hmsg : member e keyMessage = some (.str m)) (hint : q.den = 1) :
    classifyError e = .applicationError q.num m := by
  simp only [classifyError, hcode, hmsg, if_pos (isInt_iff.2 hint)]

/-- Every other `error` member is a response of bad shape (R225). -/
theorem classifyError_of_not_shape {e : JsonValue}
    (hshape : ∀ (q : Rat) (m : Text),
      ¬ (member e keyCode = some (.num q) ∧ member e keyMessage = some (.str m) ∧ q.den = 1)) :
    classifyError e = .protocolError diagBadErrorShape := by
  unfold classifyError
  split
  case h_1 q m hcode hmsg => exact if_neg fun hint => hshape q m ⟨hcode, hmsg, isInt_iff.1 hint⟩
  case h_2 => rfl

end ErrorShape

section ParsedBody

/-- A `result` member decides, whatever else the body holds (R223, R226). -/
theorem classifyJson_of_result {v w : JsonValue} (hresult : member v keyResult = some w) :
    classifyJson v = .success w := by
  simp only [classifyJson, hresult]

theorem classifyJson_of_no_keys {v : JsonValue} (hresult : member v keyResult = none)
    (herror : member v keyError = none) : classifyJson v = .protocolError diagMissingKeys := by
  simp only [classifyJson, hresult, herror]

/-- Only without a `result` is the `error` member looked at (R226). -/
theorem classifyJson_of_error {v e : JsonValue} (hresult : member v keyResult = none)
    (herror : member v keyError = some e) : classifyJson v = classifyError e := by
  simp only [classifyJson, hresult, herror]

end ParsedBody

section Body

theorem classifyResp_of_bad_json {B : Bytes} (hparse : Config.jsonParse B = none) :
    classifyResp B = .protocolError diagBadJson := by
  simp only [classifyResp, hparse]

theorem classifyResp_of_parsed {B : Bytes} {v : JsonValue} (hparse : Config.jsonParse B = some v) :
    classifyResp B = classifyJson v := by
  simp only [classifyResp, hparse]

/-- Settles O55: the parse first, then `result`, then `error`, then the shape of the error. -/
theorem responseBodiesAreClassified : Obligations.ResponseBodiesAreClassified := by
  refine ⟨fun B => ?parse, fun _ _ => classifyJson_of_result, fun _ => classifyJson_of_no_keys,
    fun v e q m hresult herror hcode hmsg hint => ?application,
    fun v e hresult herror hshape => ?badShape⟩
  case parse =>
    cases hparse : Config.jsonParse B with
    | none => exact classifyResp_of_bad_json hparse
    | some v => exact classifyResp_of_parsed hparse
  case application =>
    exact (classifyJson_of_error hresult herror).trans (classifyError_of_shape hcode hmsg hint)
  case badShape =>
    exact (classifyJson_of_error hresult herror).trans (classifyError_of_not_shape hshape)

end Body

end Sys2Proof.Proofs
end

section
/-! PROOFS. No condition halts the block (R240, R268): each kind of move answers a next state. Of the invariant
this needs that the phase is a legal one (R100) and that no `DECODE` runs in `T_Drain` (R171); the configuration
is what the step itself tests. -/

namespace Sys2Proof.Proofs

open Sys2Proof Sys2Proof.Machine Sys2Proof.Claims Sys2Proof.Laws

section Receiving

/-- In the receive phase a frame with any header finishes the transaction (R201 to R203). -/
theorem frameEnd_total {s : State} (hph : s.tphase = .recv) (h B : Bytes) : ∃ t, frameEnd h B s = .next t := by
  by_cases hresp : h = hdrRESP
  · subst hresp
    exact ⟨_, (frameEnd_resp B s).trans (exec_headerResp_of_recv (s := decodeEnd _ s) hph B)⟩
  · by_cases herr : h = hdrERR
    · subst herr
      exact ⟨_, (frameEnd_err B s).trans (exec_headerErr_of_recv (s := decodeEnd _ s) hph B)⟩
    · exact ⟨_, frameEnd_of_unexpected hresp herr B s⟩

/-- In the receive phase whatever the decoder gives out is acted on (R174 to R176). -/
theorem afterByte_total {s : State} (hph : s.tphase = .recv) : ∃ t, afterByte s = .next t := by
  cases ho : s.decOut with
  | none => exact ⟨s, afterByte_of_none ho⟩
  | frame h B =>
    rw [afterByte_of_frame ho]
    exact frameEnd_total hph h B
  | crcFail => exact ⟨_, afterByte_of_crcFail ho⟩

/-- Every byte at the front of the backlog is taken: the decoder has a step for it and leaves the phase alone
(R135, R174). -/
theorem byteStep_total {s : State} {b : Byte} {fifo : Bytes} (hph : s.tphase = .recv)
    (hf : s.rxFifo = b :: fifo) : ∃ t, byteStep b s = .next t := by
  obtain ⟨_, hexec, q, o, e, rfl⟩ := exec_decodeRx_total { s with rxFifo := fifo } b
  rw [byteStep_of_exec hf hexec]
  exact afterByte_total hph

/-- With no byte to take a running `DECODE` waits (R174). -/
theorem recvStep_of_no_byte {s : State} (hrun : s.decActive = true) (hx : s.xpErr = none)
    (hpos : 0 < s.decTimer) (hf : s.rxFifo = []) : recvStep s = .next s := by
  simp [recvStep, timerExpired, hrun, hx, hpos.ne', hf]

/-- The receive phase always has a step: a failure, the expiry, a byte, or waiting (R173, R174, R177). -/
theorem recvStep_total {s : State} (hph : s.tphase = .recv) : ∃ t, recvStep s = .next t := by
  by_cases hrun : s.decActive = true
  · cases hx : s.xpErr with
    | some e => exact ⟨_, recvStep_of_xpErr hrun hx⟩
    | none =>
      obtain hzero | hpos := Nat.eq_zero_or_pos s.decTimer
      · exact ⟨_, recvStep_of_expired hrun hx hzero⟩
      · cases hf : s.rxFifo with
        | nil => exact ⟨s, recvStep_of_no_byte hrun hx hpos hf⟩
        | cons b fifo =>
          rw [recvStep_of_byte hrun hx hpos hf]
          exact byteStep_total hph hf
  · exact ⟨s, if_neg hrun⟩

end Receiving

section Moves

/-- Where no `DECODE` runs, `T_Drain` starts one or waits (R194). -/
theorem drainStep_total {s : State} (hidle : s.decActive = false) : ∃ t, drainStep s = .next t := by
  cases hd : s.txDrained with
  | true => exact ⟨_, drainStep_of_drained hd hidle⟩
  | false => exact ⟨s, drainStep_of_undrained hd⟩

/-- A sending phase has a step if it has one while no Transport failure is reported (R213). -/
theorem unlessXpErr_total {s : State} {k : Answer} (hk : ∃ t, k = .next t) :
    ∃ t, unlessXpErr s k = .next t := by
  unfold unlessXpErr
  cases s.xpErr with
  | some e => exact ⟨_, rfl⟩
  | none => exact hk

/-- The sequencer has a step in every legal phase (R191 to R195, R213). -/
theorem sequencerStep_total {s : State} (hlegal : phaseIllegal s = false)
    (hdrain : s.tphase = .drain → s.decActive = false) : ∃ t, sequencerStep s = .next t := by
  unfold sequencerStep
  cases hph : s.tphase with
  | idle | excl => exact ⟨s, rfl⟩
  | flush => exact unlessXpErr_total ⟨_, if_pos hph⟩
  | send => exact unlessXpErr_total ⟨_, rfl⟩
  | drain => exact unlessXpErr_total (drainStep_total (hdrain hph))
  | recv => exact recvStep_total hph
  | code6 | code7 => simp [phaseIllegal, hph] at hlegal

/-- The request of one of the block's ports is judged, whatever it asks for (R187 to R190, R209 to R212). -/
theorem exec_decodeReq_total {p : Nat} {s : State} (hp : p < s.ports.length) (op : BitVec 2) (B : Bytes)
    (n : Nat) : ∃ t, exec (decodeReq p op B n) s = .next t := by
  obtain ⟨hcmd, hcmdNr, hexcl⟩ := exec_lockRequests hp B n
  unfold decodeReq
  cases HostOp.ofCode op with
  | cmd => exact ⟨_, hcmd⟩
  | cmdNr => exact ⟨_, hcmdNr⟩
  | excl => exact ⟨_, hexcl⟩
  | release => exact ⟨_, exec_release hp⟩

/-- In a legal phase the taking of a request has a step, whether or not there is one (R187). -/
theorem takeRequest_total {s : State} (hlegal : phaseIllegal s = false) (p : Nat) :
    ∃ t, takeRequest p s = .next t := by
  rw [takeRequest, if_neg (by simp [hlegal])]
  cases hk : portAt p s with
  | none => exact ⟨s, rfl⟩
  | some k =>
    by_cases hreq : k.reqValid = true
    · obtain ⟨t, ht⟩ := exec_decodeReq_total (lt_of_portAt hk) k.req.op k.req.body k.req.timeout
      exact ⟨t, (if_pos hreq).trans ht⟩
    · exact ⟨s, if_neg hreq⟩

/-- Every move has a step from a state with the invariant; those of the environment have one from any state. -/
theorem applyMove_total {s : State} (h : Inv s) (m : Move) : ∃ t, applyMove m s = .next t := by
  cases m with
  | own => exact sequencerStep_total h.phase_legal fun hph => decActive_of_not_recv h (by simp [hph])
  | take p => exact takeRequest_total h.phase_legal p
  | tick | rxArrive | rxLose | xpOpen | xpErr | txDrained | reconfigure | post | collect | rst => exact ⟨_, rfl⟩

/-- Settles O52: the configuration is accepted, and the move at the head of the schedule, if any, has a step. -/
theorem noStepStopsTheBlock : Obligations.NoStepStopsTheBlock := by
  intro s h
  cases hs : s.schedule with
  | nil => exact ⟨s, step_of_nil h.config hs⟩
  | cons m rest =>
    rw [step_of_move h.config hs]
    exact applyMove_total (s := { s with schedule := rest }) { h with } m

end Moves

end Sys2Proof.Proofs
end

section
/-! PROOFS. Block reset (R270 to R272), and what a step leaves of the Transport while no other agent disturbs
it (R280): who writes `xp_open`, then the streams from `streamsAreTouchedOnlyInTheirPhases`. -/

namespace Sys2Proof.Proofs

open Sys2Proof Sys2Proof.Machine Sys2Proof.Claims Sys2Proof.Laws

section Reset

theorem step_rst {s : State} {rest : List Move} (hr : Ready s .rst rest) :
    step s = .next (blockReset { s with schedule := rest }) := step_of_move hr.1 hr.2

/-- Both valid bits of every port are 0 after a block reset (R45, R270). -/
theorem blockReset_ports_free {s : State} {q : Port} (hq : q ∈ (blockReset s).ports) :
    q.reqValid = false ∧ q.resValid = false := by
  rw [List.eq_of_mem_replicate hq]
  exact ⟨rfl, rfl⟩

/-- Settles O48: the state after the step is the block reset of the state before it. -/
theorem blockResetLeavesTheTransportAlone : Obligations.BlockResetLeavesTheTransportAlone := by
  intro s rest hr
  refine ⟨_, step_rst hr, rfl, rfl, rfl, rfl, rfl, rfl, rfl, rfl, ?ports, fun _ => blockReset_ports_free,
    rfl, rfl, rfl, rfl, rfl, rfl, rfl⟩
  case ports => simp

end Reset

section Connection

/-- The sequencer does not write `xp_open` (R42). -/
theorem OwnStep.xpOpen_eq {s t : State} (h : OwnStep s t) : t.xpOpen = s.xpOpen := by
  cases h with
  | waits | loads | sends | listens | takesByte => rfl
  | fails | ends => simp [decodeEnded]

/-- Taking a request reads `xp_open` and does not write it (R190). -/
theorem TakeStep.xpOpen_eq {p : Nat} {s t : State} (h : TakeStep p s t) : t.xpOpen = s.xpOpen := by
  cases h <;> rfl

/-- Only the environment's own move changes the connection (R42). -/
theorem xpOpen_of_applyMove {m : Move} {s t : State} (hm : ∀ v, m ≠ .xpOpen v)
    (h : applyMove m s = .next t) : t.xpOpen = s.xpOpen := by
  cases m with
  | own => exact (ownStep_of_sequencerStep h).xpOpen_eq
  | take p => exact (takeStep_of_takeRequest h).xpOpen_eq
  | xpOpen v => exact absurd rfl (hm v)
  | tick =>
    obtain rfl := Host.Outcome.next.inj h
    obtain ⟨-, -, heq⟩ | ⟨-, heq⟩ := tick_cases s <;> rw [heq]
  | post p op body n =>
    obtain rfl := Host.Outcome.next.inj h
    obtain ⟨-, -, heq⟩ | ⟨-, heq⟩ := hostPost_cases p op body n s <;> rw [heq]
    rfl
  | collect p =>
    obtain rfl := Host.Outcome.next.inj h
    obtain ⟨k, -, -, heq⟩ | ⟨-, heq⟩ := hostCollect_cases p s <;> rw [heq]
    rfl
  | rxArrive | rxLose | xpErr | txDrained | reconfigure | rst =>
    obtain rfl := Host.Outcome.next.inj h
    rfl

end Connection

section Undisturbed

/-- A move R280 allows beside a transaction does not change the connection. -/
theorem ne_xpOpen_of_not_disturbs {m : Move} (h : m.disturbs = false) (v : Bool) : m ≠ .xpOpen v := by
  rintro rfl
  cases h

/-- A move R280 allows beside a transaction takes no byte from the backlog. -/
theorem ne_rxLose_of_not_disturbs {m : Move} (h : m.disturbs = false) (k : Nat) : m ≠ .rxLose k := by
  rintro rfl
  cases h

/-- Settles O60: of all that can touch the streams and the connection, the premise of R280 leaves arrivals and
the transaction's own steps. -/
theorem undisturbedTransactionOwnsTheTransport : Obligations.UndisturbedTransactionOwnsTheTransport := by
  intro s t hquiet hact h
  obtain ⟨hc, ⟨-, rfl⟩ | ⟨m, rest, hs, hmove⟩⟩ := step_eq_next_iff.1 h
  · exact ⟨rfl, fun _ => rfl, .inl rfl⟩
  · have hm : m.disturbs = false := hquiet hact m (by rw [hs, List.head?_cons])
    obtain ⟨hwire, hfifo⟩ := streamsAreTouchedOnlyInTheirPhases s t m rest ⟨hc, hs⟩ h
    have hopen : t.xpOpen = s.xpOpen :=
      xpOpen_of_applyMove (s := { s with schedule := rest }) (ne_xpOpen_of_not_disturbs hm) hmove
    refine ⟨hopen, fun hne => ?wire, ?fifo⟩
    case wire => exact hwire.resolve_right fun ⟨_, hsend, _⟩ => hne hsend
    case fifo =>
      obtain heq | ⟨b, -, harrive⟩ | ⟨k, hlose, -⟩ | ⟨-, hflush⟩ | ⟨-, hrecv⟩ := hfifo
      · exact .inl heq
      · exact .inr (.inl ⟨b, harrive⟩)
      · exact absurd hlose (ne_rxLose_of_not_disturbs hm k)
      · exact .inr (.inr (.inl hflush))
      · exact .inr (.inr (.inr hrecv))

end Undisturbed

end Sys2Proof.Proofs
end
